-- ==== Sys2Proof/Word.lean ====
section
/-! DEFINITION. The word types of the FFE-SWU engine (00_scope.md R11, R15; 30_encoding.md R80). -/

namespace Sys2Proof

/-- A 32-bit word: a command word, or the data of one window access (30_encoding.md R80, 20_memory.md R55). -/
abbrev Word := BitVec 32

/-- One byte of the uniform-bytes buffer (10_state.md R27). -/
abbrev Byte := BitVec 8

/-- The raw content of a field register or of a point coordinate: `W = 256` bits (00_scope.md R11). -/
abbrev Reg := BitVec 256

end Sys2Proof
end

