-- ==== Sys2Proof/Config.lean ====
section
/-! DEFINITION. What an instance of the engine fixes (00_scope.md R7 to R14) and the values the spec leaves free. -/

namespace Sys2Proof.Config

/-- The per-curve constants of 00_scope.md R7: the modulus `p`, the coefficients `A` and `B`, the non-square `Z`, and the
half-length `L` in bytes. -/
structure Curve where
  p : Nat
  A : Nat
  B : Nat
  Z : Nat
  L : Nat
deriving DecidableEq, Repr

/-- The legality conditions (a) to (f) of 00_scope.md R9, with `W = 256` (R11). A division in a condition is said by its
defining equation: `x = B/(Z·A)` is `x·(Z·A) = B`. -/
structure Curve.Legal (c : Curve) : Prop where
  /-- (a) -/
  threeModFour : c.p % 4 = 3
  /-- (b) -/
  zNonSquare : ¬ ∃ y, y * y % c.p = c.Z % c.p
  /-- (c) -/
  aNonZero : c.A % c.p ≠ 0
  /-- (d) -/
  primeModulus : c.p.Prime
  /-- (e) -/
  bNonZero : c.B % c.p ≠ 0
  /-- (e) -/
  nonSingular : (4 * c.A ^ 3 + 27 * c.B ^ 2) % c.p ≠ 0
  /-- (e) -/
  zNotMinusOne : (c.Z + 1) % c.p ≠ 0
  /-- (e) -/
  exceptionalSquare : ∃ x y, x * (c.Z * c.A) % c.p = c.B % c.p ∧ y * y % c.p = (x ^ 3 + c.A * x + c.B) % c.p
  /-- (f) -/
  width : 2 ^ 255 < c.p ∧ c.p < 2 ^ 256

/-- The P-256 instance of 00_scope.md R10. -/
def p256 : Curve where
  p := 0xffffffff00000001000000000000000000000000ffffffffffffffffffffffff
  A := 0xffffffff00000001000000000000000000000000fffffffffffffffffffffffc
  B := 0x5ac635d8aa3a93e7b3ebbd55769886bc651d06b0cc53b0f63bce3c3e27d2604b
  Z := 0xffffffff00000001000000000000000000000000fffffffffffffffffffffff5
  L := 48

/-- The curve of this instance (00_scope.md R3). DESIGN CHOICE, unsafe for another instance: the machine is built for the
one instance whose constants the spec gives (log 1). -/
def curve : Curve := p256

/-- Which 4096-byte page of the system address map holds the window: the open parameter behind `BASE` (00_scope.md R13,
log 2). Safe: nothing is known of its value. -/
opaque basePage : Nat

/-- `BASE`, a multiple of 4096 (00_scope.md R13). -/
def base : Nat := 4096 * basePage

/-- How many cycles more than one an opcode takes: the open parameter behind `LAT` (00_scope.md R14, log 3). Safe: nothing
is known of its values. -/
opaque latExtra : BitVec 6 → Nat

/-- `LAT(op)`, at least 1, a function of the opcode alone (00_scope.md R14). -/
def lat (op : BitVec 6) : Nat := latExtra op + 1

/-- The unspecified value that the `n`-th read of operand state while busy returns: "a free 32-bit input under no law"
(20_memory.md R57, log 4). Safe: nothing is known of its values. -/
opaque freeRead : Nat → Word

/-- The constant the `ID` register reads as, ASCII "SWU1" (10_state.md R30). -/
def idValue : Word := 0x53575531#32

end Sys2Proof.Config
end

