-- ==== Sys2Proof/Machine/Field.lean ====
section
/-! DEFINITION. The field primitives of 00_scope.md R15 and R17, each on integers in `[0, p)`, for any curve `c`. -/

namespace Sys2Proof.Machine

open Sys2Proof.Config (Curve)

/-- `x ^ n mod m` for `n < 2 ^ k`, by squaring. -/
def powModBits (m : Nat) : Nat → Nat → Nat → Nat
  | 0, _, _ => 1 % m
  | k + 1, x, n =>
    let rest := powModBits m k (x * x % m) (n / 2)
    if n % 2 = 1 then x * rest % m else rest

/-- `x ^ n mod m` for a 256-bit exponent `n`: the value, not the method, is what the spec gives (log 19). -/
def powMod (m x n : Nat) : Nat := powModBits m 256 x n

/-- `z mod p`: the least non-negative residue, also of a negative integer (00_scope.md R15). -/
def resid (p : Nat) (z : Int) : Nat := (z % (p : Int)).toNat

/-- `inv0(x) = x^(p−2) mod p` (00_scope.md R17). -/
def inv0 (c : Curve) (x : Nat) : Nat := powMod c.p x (c.p - 2)

/-- `is_square(x)`: `x^((p−1)/2) mod p ∈ {0, 1}` (00_scope.md R17). -/
def isSquare (c : Curve) (x : Nat) : Bool :=
  powMod c.p x ((c.p - 1) / 2) == 0 || powMod c.p x ((c.p - 1) / 2) == 1

/-- `sqrt(x) = x^((p+1)/4) mod p` (00_scope.md R17). -/
def sqrtP (c : Curve) (x : Nat) : Nat := powMod c.p x ((c.p + 1) / 4)

/-- `sgn0(x) = x mod 2` (00_scope.md R17). -/
def sgn0 (x : Nat) : Nat := x % 2

/-- `cmov(x, y, c)`: `y` if `c`, else `x` (00_scope.md R17). -/
def cmov (x y : Nat) (c : Bool) : Nat := if c then y else x

/-- `g(x) = (x³ + A·x + B) mod p` (00_scope.md R17). -/
def curveRhs (c : Curve) (x : Nat) : Nat := (x ^ 3 + c.A * x + c.B) % c.p

/-- `on_curve(x, y)`: `(y² − g(x)) mod p = 0` (00_scope.md R17). -/
def onCurve (c : Curve) (x y : Nat) : Bool := resid c.p ((y : Int) ^ 2 - curveRhs c x) == 0

/-- `c1 = −B/A` (00_scope.md R8). -/
def c1 (c : Curve) : Nat := resid c.p (-(c.B : Int) * inv0 c c.A)

/-- `c2 = −1/Z` (00_scope.md R8). -/
def c2 (c : Curve) : Nat := resid c.p (-(inv0 c c.Z : Int))

end Sys2Proof.Machine
end

