-- ==== Sys2Proof/Syntax.lean ====
section
/-! DEFINITION. The commands of the engine, one constructor per row of spec/opcode_table.json (30_encoding.md R83), with
their operands read out of their fields (R81). -/

namespace Sys2Proof

/-- A field register index, role `F` of 30_encoding.md R81. -/
abbrev FReg := Fin 16

/-- A predicate register index, role `E` of 30_encoding.md R81. -/
abbrev EReg := Fin 8

/-- A point register index, role `Q` of 30_encoding.md R81. -/
abbrev QReg := Fin 4

/-- Which half of the uniform bytes, the immediate `#h` of `FLDU` (41_field_arith.md R111). -/
abbrev Half := Fin 2

/-- The ten constants `FLDK` loads, by the names of 41_field_arith.md R110: role `K` of 30_encoding.md R81. -/
inductive FieldConst where
  | zero | one | a | b | z | c1 | c2 | euler | sqrtExp | invExp
deriving DecidableEq, Repr

/-- A command. Operands stand in the order of the encoding's fields `d`, `a`, `b`, `e`, `k`. -/
inductive Instr where
  | nop
  | fadd (d a b : FReg)
  | fsub (d a b : FReg)
  | fneg (d a : FReg)
  | fmul (d a b : FReg)
  | fsqr (d a : FReg)
  | finv (d a : FReg)
  | fdiv (d a b : FReg)
  | fexp (d a b : FReg)
  | fsqrt (d a : FReg)
  | fmov (d a : FReg)
  | fldk (d : FReg) (k : FieldConst)
  | fldu (d : FReg) (h : Half)
  | fisz (d : EReg) (a : FReg)
  | feq (d : EReg) (a b : FReg)
  | fissq (d : EReg) (a : FReg)
  | fsgn0 (d : EReg) (a : FReg)
  | fcmov (d a b : FReg) (e : EReg)
  | pand (d a b : EReg)
  | por (d a b : EReg)
  | pxor (d a b : EReg)
  | pxnor (d a b : EReg)
  | pnot (d a : EReg)
  | pset (d : EReg) (v : Bool)
  /-- `d` is the x destination, `a` the input, `b` the y destination (30_encoding.md R83). -/
  | swu (d a b : FReg)
  /-- `a` holds x and `b` holds y (30_encoding.md R83). -/
  | qlift (d : QReg) (a b : FReg)
  | qinf (d : QReg)
  | qgetx (d : FReg) (a : QReg)
  | qgety (d : FReg) (a : QReg)
  | qisinf (d : EReg) (a : QReg)
  | qadd (d a b : QReg)
  | qdbl (d a : QReg)
  | h2c (d : QReg)
  | zero
deriving DecidableEq, Repr

/-- The role an opcode gives a field (30_encoding.md R81). -/
inductive Role where
  | f | e | q | k | h | unused
deriving DecidableEq, Repr

/-- The roles of the fields `d`, `a`, `b`, `e` and `k` for one opcode (30_encoding.md R83). -/
structure Roles where
  d : Role
  a : Role
  b : Role
  e : Role
  k : Role
deriving DecidableEq, Repr

/-- The 34 assigned opcodes of 30_encoding.md R83, by mnemonic. -/
inductive Opcode where
  | nop | fadd | fsub | fneg | fmul | fsqr | finv | fdiv | fexp | fsqrt | fmov | fldk | fldu
  | fisz | feq | fissq | fsgn0 | fcmov | pand | por | pxor | pxnor | pnot | pset
  | swu | qlift | qinf | qgetx | qgety | qisinf | qadd | qdbl | h2c | zero
deriving DecidableEq, Repr

/-- Why a word is no legal command (30_encoding.md R84, R85). -/
inductive Illegal where
  /-- The opcode is not one of the 34 assigned ones. -/
  | reservedOpcode
  /-- A reserved bit 5:0 is not 0. -/
  | reservedBits
  /-- An unused field is not 0, or an index or immediate is out of the range of its role. -/
  | fieldOutOfRole
  /-- `SWU` with `d = b`. -/
  | swuSameDestination
deriving DecidableEq, Repr

end Sys2Proof
end

