-- ==== Sys2Proof/WellFormed.lean ====
section
/-! DEFINITION. Well-formed commands. Every operand's range is in its type; the one relation between operands that
30_encoding.md R84 asks for is that `SWU`'s two destinations differ. -/

namespace Sys2Proof

/-- The check of 30_encoding.md R84 that the operands' types do not already make. -/
def Instr.wellFormed : Instr → Bool
  | .swu d _ b => d != b
  | .nop | .fadd .. | .fsub .. | .fneg .. | .fmul .. | .fsqr .. | .finv .. | .fdiv .. | .fexp .. | .fsqrt .. | .fmov ..
  | .fldk .. | .fldu .. | .fisz .. | .feq .. | .fissq .. | .fsgn0 .. | .fcmov .. | .pand .. | .por .. | .pxor .. | .pxnor ..
  | .pnot .. | .pset .. | .qlift .. | .qinf .. | .qgetx .. | .qgety .. | .qisinf .. | .qadd .. | .qdbl .. | .h2c .. | .zero => true

end Sys2Proof
end

