-- ==== Sys2Proof/Decode.lean ====
section
/-! DEFINITION. The decoder of command words (30_encoding.md R80 to R86), total on every 32-bit word and refusing by name,
and after it the encoder. -/

namespace Sys2Proof

/-! ### The fields of a command word (30_encoding.md R80) -/

/-- Field `op`, bits 31:26. -/
def opF (w : Word) : BitVec 6 := w.extractLsb' 26 6

/-- Field `d`, bits 25:22. -/
def dF (w : Word) : BitVec 4 := w.extractLsb' 22 4

/-- Field `a`, bits 21:18. -/
def aF (w : Word) : BitVec 4 := w.extractLsb' 18 4

/-- Field `b`, bits 17:14. -/
def bF (w : Word) : BitVec 4 := w.extractLsb' 14 4

/-- Field `e`, bits 13:10. -/
def eF (w : Word) : BitVec 4 := w.extractLsb' 10 4

/-- Field `k`, bits 9:6. -/
def kF (w : Word) : BitVec 4 := w.extractLsb' 6 4

/-- Field `rsv`, bits 5:0. -/
def rsvF (w : Word) : BitVec 6 := w.extractLsb' 0 6

/-! ### The opcode map (30_encoding.md R83) -/

/-- The opcode number, column `op` of 30_encoding.md R83. -/
def Opcode.code : Opcode → BitVec 6
  | .nop => 0x00#6
  | .fadd => 0x01#6
  | .fsub => 0x02#6
  | .fneg => 0x03#6
  | .fmul => 0x04#6
  | .fsqr => 0x05#6
  | .finv => 0x06#6
  | .fdiv => 0x07#6
  | .fexp => 0x08#6
  | .fsqrt => 0x09#6
  | .fmov => 0x0a#6
  | .fldk => 0x0b#6
  | .fldu => 0x0c#6
  | .fisz => 0x10#6
  | .feq => 0x11#6
  | .fissq => 0x12#6
  | .fsgn0 => 0x13#6
  | .fcmov => 0x14#6
  | .pand => 0x15#6
  | .por => 0x16#6
  | .pxor => 0x17#6
  | .pxnor => 0x18#6
  | .pnot => 0x19#6
  | .pset => 0x1a#6
  | .swu => 0x20#6
  | .qlift => 0x21#6
  | .qinf => 0x22#6
  | .qgetx => 0x23#6
  | .qgety => 0x24#6
  | .qisinf => 0x25#6
  | .qadd => 0x26#6
  | .qdbl => 0x27#6
  | .h2c => 0x28#6
  | .zero => 0x3f#6

/-- The roles of the fields, column `roles d a b e k` of 30_encoding.md R83. -/
def Opcode.roles : Opcode → Roles
  | .nop => ⟨.unused, .unused, .unused, .unused, .unused⟩
  | .fadd => ⟨.f, .f, .f, .unused, .unused⟩
  | .fsub => ⟨.f, .f, .f, .unused, .unused⟩
  | .fneg => ⟨.f, .f, .unused, .unused, .unused⟩
  | .fmul => ⟨.f, .f, .f, .unused, .unused⟩
  | .fsqr => ⟨.f, .f, .unused, .unused, .unused⟩
  | .finv => ⟨.f, .f, .unused, .unused, .unused⟩
  | .fdiv => ⟨.f, .f, .f, .unused, .unused⟩
  | .fexp => ⟨.f, .f, .f, .unused, .unused⟩
  | .fsqrt => ⟨.f, .f, .unused, .unused, .unused⟩
  | .fmov => ⟨.f, .f, .unused, .unused, .unused⟩
  | .fldk => ⟨.f, .unused, .unused, .unused, .k⟩
  | .fldu => ⟨.f, .unused, .unused, .unused, .h⟩
  | .fisz => ⟨.e, .f, .unused, .unused, .unused⟩
  | .feq => ⟨.e, .f, .f, .unused, .unused⟩
  | .fissq => ⟨.e, .f, .unused, .unused, .unused⟩
  | .fsgn0 => ⟨.e, .f, .unused, .unused, .unused⟩
  | .fcmov => ⟨.f, .f, .f, .e, .unused⟩
  | .pand => ⟨.e, .e, .e, .unused, .unused⟩
  | .por => ⟨.e, .e, .e, .unused, .unused⟩
  | .pxor => ⟨.e, .e, .e, .unused, .unused⟩
  | .pxnor => ⟨.e, .e, .e, .unused, .unused⟩
  | .pnot => ⟨.e, .e, .unused, .unused, .unused⟩
  | .pset => ⟨.e, .unused, .unused, .unused, .h⟩
  | .swu => ⟨.f, .f, .f, .unused, .unused⟩
  | .qlift => ⟨.q, .f, .f, .unused, .unused⟩
  | .qinf => ⟨.q, .unused, .unused, .unused, .unused⟩
  | .qgetx => ⟨.f, .q, .unused, .unused, .unused⟩
  | .qgety => ⟨.f, .q, .unused, .unused, .unused⟩
  | .qisinf => ⟨.e, .q, .unused, .unused, .unused⟩
  | .qadd => ⟨.q, .q, .q, .unused, .unused⟩
  | .qdbl => ⟨.q, .q, .unused, .unused, .unused⟩
  | .h2c => ⟨.q, .unused, .unused, .unused, .unused⟩
  | .zero => ⟨.unused, .unused, .unused, .unused, .unused⟩

/-- Column `match` of 30_encoding.md R83. -/
def Opcode.matchBits : Opcode → Word
  | .nop => 0x00000000#32
  | .fadd => 0x04000000#32
  | .fsub => 0x08000000#32
  | .fneg => 0x0c000000#32
  | .fmul => 0x10000000#32
  | .fsqr => 0x14000000#32
  | .finv => 0x18000000#32
  | .fdiv => 0x1c000000#32
  | .fexp => 0x20000000#32
  | .fsqrt => 0x24000000#32
  | .fmov => 0x28000000#32
  | .fldk => 0x2c000000#32
  | .fldu => 0x30000000#32
  | .fisz => 0x40000000#32
  | .feq => 0x44000000#32
  | .fissq => 0x48000000#32
  | .fsgn0 => 0x4c000000#32
  | .fcmov => 0x50000000#32
  | .pand => 0x54000000#32
  | .por => 0x58000000#32
  | .pxor => 0x5c000000#32
  | .pxnor => 0x60000000#32
  | .pnot => 0x64000000#32
  | .pset => 0x68000000#32
  | .swu => 0x80000000#32
  | .qlift => 0x84000000#32
  | .qinf => 0x88000000#32
  | .qgetx => 0x8c000000#32
  | .qgety => 0x90000000#32
  | .qisinf => 0x94000000#32
  | .qadd => 0x98000000#32
  | .qdbl => 0x9c000000#32
  | .h2c => 0xa0000000#32
  | .zero => 0xfc000000#32

/-- Column `mask` of 30_encoding.md R83. -/
def Opcode.maskBits : Opcode → Word
  | .nop => 0xffffffff#32
  | .fadd => 0xfc003fff#32
  | .fsub => 0xfc003fff#32
  | .fneg => 0xfc03ffff#32
  | .fmul => 0xfc003fff#32
  | .fsqr => 0xfc03ffff#32
  | .finv => 0xfc03ffff#32
  | .fdiv => 0xfc003fff#32
  | .fexp => 0xfc003fff#32
  | .fsqrt => 0xfc03ffff#32
  | .fmov => 0xfc03ffff#32
  | .fldk => 0xfc3ffc3f#32
  | .fldu => 0xfc3fffbf#32
  | .fisz => 0xfe03ffff#32
  | .feq => 0xfe003fff#32
  | .fissq => 0xfe03ffff#32
  | .fsgn0 => 0xfe03ffff#32
  | .fcmov => 0xfc0023ff#32
  | .pand => 0xfe223fff#32
  | .por => 0xfe223fff#32
  | .pxor => 0xfe223fff#32
  | .pxnor => 0xfe223fff#32
  | .pnot => 0xfe23ffff#32
  | .pset => 0xfe3fffbf#32
  | .swu => 0xfc003fff#32
  | .qlift => 0xff003fff#32
  | .qinf => 0xff3fffff#32
  | .qgetx => 0xfc33ffff#32
  | .qgety => 0xfc33ffff#32
  | .qisinf => 0xfe33ffff#32
  | .qadd => 0xff333fff#32
  | .qdbl => 0xff33ffff#32
  | .h2c => 0xff3fffff#32
  | .zero => 0xffffffff#32

/-- Column `extra` of 30_encoding.md R83: `k ≤ 9` for `FLDK`, `d ≠ b` for `SWU`, nothing for the others. -/
def Opcode.extra (o : Opcode) (w : Word) : Bool :=
  (o != .fldk || (kF w).toNat ≤ 9) && (o != .swu || dF w != bF w)

/-- All assigned opcodes. -/
def Opcode.all : List Opcode :=
  [.nop, .fadd, .fsub, .fneg, .fmul, .fsqr, .finv, .fdiv, .fexp, .fsqrt,
   .fmov, .fldk, .fldu, .fisz, .feq, .fissq, .fsgn0, .fcmov, .pand, .por,
   .pxor, .pxnor, .pnot, .pset, .swu, .qlift, .qinf, .qgetx, .qgety, .qisinf,
   .qadd, .qdbl, .h2c, .zero]

/-- The assigned opcode with a given number, if there is one. -/
def Opcode.ofCode? (c : BitVec 6) : Option Opcode := Opcode.all.find? (fun o => o.code == c)

/-- The values a role admits in its field (30_encoding.md R81). -/
def Role.admits (r : Role) (x : BitVec 4) : Bool :=
  match r with
  | .unused => x == 0#4
  | .f => true
  | .e => x.toNat ≤ 7
  | .q => x.toNat ≤ 3
  | .k => x.toNat ≤ 9
  | .h => x.toNat ≤ 1

/-- Every field of `w` is in the range of the role that `o` gives it. -/
def Opcode.fieldsInRole (o : Opcode) (w : Word) : Bool :=
  o.roles.d.admits (dF w) && o.roles.a.admits (aF w) && o.roles.b.admits (bF w) && o.roles.e.admits (eF w) &&
    o.roles.k.admits (kF w)

/-! ### Operand assembly (30_encoding.md R82): indexes and immediates are unsigned -/

/-- A field register index. -/
def asF (x : BitVec 4) : FReg := x.toFin

/-- A predicate register index; the role keeps bit 3 at 0. -/
def asE (x : BitVec 4) : EReg := (x.extractLsb' 0 3).toFin

/-- A point register index; the role keeps bits 3:2 at 0. -/
def asQ (x : BitVec 4) : QReg := (x.extractLsb' 0 2).toFin

/-- A constant index (41_field_arith.md R110); the role keeps it at most 9. -/
def asConst (x : BitVec 4) : FieldConst :=
  match x.toNat with
  | 0 => .zero
  | 1 => .one
  | 2 => .a
  | 3 => .b
  | 4 => .z
  | 5 => .c1
  | 6 => .c2
  | 7 => .euler
  | 8 => .sqrtExp
  | _ => .invExp

/-- The half `h = k` of `FLDU`; the role keeps bits 3:1 at 0. -/
def asHalf (x : BitVec 4) : Half := (x.extractLsb' 0 1).toFin

/-- The bit `k[0]` of `PSET` (42_predicate_select.md R140). -/
def asBit (x : BitVec 4) : Bool := x.getLsbD 0

/-- The command of opcode `o` with the operands in the fields of `w`. -/
def Opcode.build (o : Opcode) (w : Word) : Instr :=
  match o with
  | .nop => .nop
  | .fadd => .fadd (asF (dF w)) (asF (aF w)) (asF (bF w))
  | .fsub => .fsub (asF (dF w)) (asF (aF w)) (asF (bF w))
  | .fneg => .fneg (asF (dF w)) (asF (aF w))
  | .fmul => .fmul (asF (dF w)) (asF (aF w)) (asF (bF w))
  | .fsqr => .fsqr (asF (dF w)) (asF (aF w))
  | .finv => .finv (asF (dF w)) (asF (aF w))
  | .fdiv => .fdiv (asF (dF w)) (asF (aF w)) (asF (bF w))
  | .fexp => .fexp (asF (dF w)) (asF (aF w)) (asF (bF w))
  | .fsqrt => .fsqrt (asF (dF w)) (asF (aF w))
  | .fmov => .fmov (asF (dF w)) (asF (aF w))
  | .fldk => .fldk (asF (dF w)) (asConst (kF w))
  | .fldu => .fldu (asF (dF w)) (asHalf (kF w))
  | .fisz => .fisz (asE (dF w)) (asF (aF w))
  | .feq => .feq (asE (dF w)) (asF (aF w)) (asF (bF w))
  | .fissq => .fissq (asE (dF w)) (asF (aF w))
  | .fsgn0 => .fsgn0 (asE (dF w)) (asF (aF w))
  | .fcmov => .fcmov (asF (dF w)) (asF (aF w)) (asF (bF w)) (asE (eF w))
  | .pand => .pand (asE (dF w)) (asE (aF w)) (asE (bF w))
  | .por => .por (asE (dF w)) (asE (aF w)) (asE (bF w))
  | .pxor => .pxor (asE (dF w)) (asE (aF w)) (asE (bF w))
  | .pxnor => .pxnor (asE (dF w)) (asE (aF w)) (asE (bF w))
  | .pnot => .pnot (asE (dF w)) (asE (aF w))
  | .pset => .pset (asE (dF w)) (asBit (kF w))
  | .swu => .swu (asF (dF w)) (asF (aF w)) (asF (bF w))
  | .qlift => .qlift (asQ (dF w)) (asF (aF w)) (asF (bF w))
  | .qinf => .qinf (asQ (dF w))
  | .qgetx => .qgetx (asF (dF w)) (asQ (aF w))
  | .qgety => .qgety (asF (dF w)) (asQ (aF w))
  | .qisinf => .qisinf (asE (dF w)) (asQ (aF w))
  | .qadd => .qadd (asQ (dF w)) (asQ (aF w)) (asQ (bF w))
  | .qdbl => .qdbl (asQ (dF w)) (asQ (aF w))
  | .h2c => .h2c (asQ (dF w))
  | .zero => .zero

/-- Decodes a command word, or says why it is not legal (30_encoding.md R84). -/
def decode (w : Word) : Except Illegal Instr :=
  match Opcode.ofCode? (opF w) with
  | none => .error .reservedOpcode
  | some o =>
    if rsvF w != 0#6 then .error .reservedBits
    else if !o.fieldsInRole w then .error .fieldOutOfRole
    else if o == .swu && dF w == bF w then .error .swuSameDestination
    else .ok (o.build w)

/-- `legal(w)` of 30_encoding.md R84. It reads only `w`. -/
def legal (w : Word) : Bool :=
  match Opcode.ofCode? (opF w) with
  | none => false
  | some o => rsvF w == 0#6 && o.fieldsInRole w && (o != .swu || dF w != bF w)

/-- The instruction the decoder reads from a table row's bits: the word the host writes to `CMD`, 32 bits. -/
def decodeTableWord (nbits w : Nat) : Option Instr := (decode (BitVec.ofNat 32 (w % 2 ^ nbits))).toOption

/-! ### The encoder, from the same tables -/

/-- A command word from its fields, with `rsv = 0` (30_encoding.md R80). -/
def pack (op : BitVec 6) (d a b e k : BitVec 4) : Word := op ++ d ++ a ++ b ++ e ++ k ++ 0#6

/-- The field of a field register index. -/
def ofF (r : FReg) : BitVec 4 := BitVec.ofNat 4 r.val

/-- The field of a predicate register index. -/
def ofE (r : EReg) : BitVec 4 := BitVec.ofNat 4 r.val

/-- The field of a point register index. -/
def ofQ (r : QReg) : BitVec 4 := BitVec.ofNat 4 r.val

/-- The field of a constant index (41_field_arith.md R110). -/
def ofConst : FieldConst → BitVec 4
  | .zero => 0#4
  | .one => 1#4
  | .a => 2#4
  | .b => 3#4
  | .z => 4#4
  | .c1 => 5#4
  | .c2 => 6#4
  | .euler => 7#4
  | .sqrtExp => 8#4
  | .invExp => 9#4

/-- The field of a half. -/
def ofHalf (h : Half) : BitVec 4 := BitVec.ofNat 4 h.val

/-- The field of `PSET`'s bit. -/
def ofBit (v : Bool) : BitVec 4 := if v then 1#4 else 0#4

/-- The opcode of a command. -/
def Instr.opcode : Instr → Opcode
  | .nop => .nop
  | .fadd .. => .fadd
  | .fsub .. => .fsub
  | .fneg .. => .fneg
  | .fmul .. => .fmul
  | .fsqr .. => .fsqr
  | .finv .. => .finv
  | .fdiv .. => .fdiv
  | .fexp .. => .fexp
  | .fsqrt .. => .fsqrt
  | .fmov .. => .fmov
  | .fldk .. => .fldk
  | .fldu .. => .fldu
  | .fisz .. => .fisz
  | .feq .. => .feq
  | .fissq .. => .fissq
  | .fsgn0 .. => .fsgn0
  | .fcmov .. => .fcmov
  | .pand .. => .pand
  | .por .. => .por
  | .pxor .. => .pxor
  | .pxnor .. => .pxnor
  | .pnot .. => .pnot
  | .pset .. => .pset
  | .swu .. => .swu
  | .qlift .. => .qlift
  | .qinf .. => .qinf
  | .qgetx .. => .qgetx
  | .qgety .. => .qgety
  | .qisinf .. => .qisinf
  | .qadd .. => .qadd
  | .qdbl .. => .qdbl
  | .h2c .. => .h2c
  | .zero => .zero

/-- The command word of a command (30_encoding.md R83, R87). -/
def encode : Instr → Word
  | .nop => pack Opcode.nop.code 0#4 0#4 0#4 0#4 0#4
  | .fadd d a b => pack Opcode.fadd.code (ofF d) (ofF a) (ofF b) 0#4 0#4
  | .fsub d a b => pack Opcode.fsub.code (ofF d) (ofF a) (ofF b) 0#4 0#4
  | .fneg d a => pack Opcode.fneg.code (ofF d) (ofF a) 0#4 0#4 0#4
  | .fmul d a b => pack Opcode.fmul.code (ofF d) (ofF a) (ofF b) 0#4 0#4
  | .fsqr d a => pack Opcode.fsqr.code (ofF d) (ofF a) 0#4 0#4 0#4
  | .finv d a => pack Opcode.finv.code (ofF d) (ofF a) 0#4 0#4 0#4
  | .fdiv d a b => pack Opcode.fdiv.code (ofF d) (ofF a) (ofF b) 0#4 0#4
  | .fexp d a b => pack Opcode.fexp.code (ofF d) (ofF a) (ofF b) 0#4 0#4
  | .fsqrt d a => pack Opcode.fsqrt.code (ofF d) (ofF a) 0#4 0#4 0#4
  | .fmov d a => pack Opcode.fmov.code (ofF d) (ofF a) 0#4 0#4 0#4
  | .fldk d k => pack Opcode.fldk.code (ofF d) 0#4 0#4 0#4 (ofConst k)
  | .fldu d h => pack Opcode.fldu.code (ofF d) 0#4 0#4 0#4 (ofHalf h)
  | .fisz d a => pack Opcode.fisz.code (ofE d) (ofF a) 0#4 0#4 0#4
  | .feq d a b => pack Opcode.feq.code (ofE d) (ofF a) (ofF b) 0#4 0#4
  | .fissq d a => pack Opcode.fissq.code (ofE d) (ofF a) 0#4 0#4 0#4
  | .fsgn0 d a => pack Opcode.fsgn0.code (ofE d) (ofF a) 0#4 0#4 0#4
  | .fcmov d a b e => pack Opcode.fcmov.code (ofF d) (ofF a) (ofF b) (ofE e) 0#4
  | .pand d a b => pack Opcode.pand.code (ofE d) (ofE a) (ofE b) 0#4 0#4
  | .por d a b => pack Opcode.por.code (ofE d) (ofE a) (ofE b) 0#4 0#4
  | .pxor d a b => pack Opcode.pxor.code (ofE d) (ofE a) (ofE b) 0#4 0#4
  | .pxnor d a b => pack Opcode.pxnor.code (ofE d) (ofE a) (ofE b) 0#4 0#4
  | .pnot d a => pack Opcode.pnot.code (ofE d) (ofE a) 0#4 0#4 0#4
  | .pset d v => pack Opcode.pset.code (ofE d) 0#4 0#4 0#4 (ofBit v)
  | .swu d a b => pack Opcode.swu.code (ofF d) (ofF a) (ofF b) 0#4 0#4
  | .qlift d a b => pack Opcode.qlift.code (ofQ d) (ofF a) (ofF b) 0#4 0#4
  | .qinf d => pack Opcode.qinf.code (ofQ d) 0#4 0#4 0#4 0#4
  | .qgetx d a => pack Opcode.qgetx.code (ofF d) (ofQ a) 0#4 0#4 0#4
  | .qgety d a => pack Opcode.qgety.code (ofF d) (ofQ a) 0#4 0#4 0#4
  | .qisinf d a => pack Opcode.qisinf.code (ofE d) (ofQ a) 0#4 0#4 0#4
  | .qadd d a b => pack Opcode.qadd.code (ofQ d) (ofQ a) (ofQ b) 0#4 0#4
  | .qdbl d a => pack Opcode.qdbl.code (ofQ d) (ofQ a) 0#4 0#4 0#4
  | .h2c d => pack Opcode.h2c.code (ofQ d) 0#4 0#4 0#4 0#4
  | .zero => pack Opcode.zero.code 0#4 0#4 0#4 0#4 0#4

end Sys2Proof
end

