-- ==== Sys2Proof/Machine/State.lean ====
section
/-! DEFINITION. The state of the engine as plain data (10_state.md), its value after reset (70_reset_and_hazards.md R230),
and the reasons a step can stop. -/

namespace Sys2Proof.Machine

/-- A point register's content (10_state.md R25): `inf` set means the identity. -/
structure Point where
  x : Reg
  y : Reg
  inf : Bool
deriving DecidableEq, Repr

/-- The identity `(0, 0, 1)` (10_state.md R25). -/
def Point.identity : Point := ⟨0#256, 0#256, true⟩

/-- The values `ERRCODE.CODE` takes (10_state.md R34); "values 5 to 15 are never written" (log 13). -/
inductive ErrCode where
  | none | illegal | decode | overrun | busyWrite
deriving DecidableEq, Repr

/-- One host access: a read or a write of `bytes` bytes at an address of the system address map (00_scope.md R16,
20_memory.md R55). `v` is the data on the bus; only a 4-byte access is accepted, so its 32 bits are all that can count. -/
inductive Access where
  | read (addr bytes : Nat)
  | write (addr bytes : Nat) (v : Word)
deriving DecidableEq, Repr

/-- What can happen to the engine next (10_state.md R20, 20_memory.md R61, 70_reset_and_hazards.md R230; log 5). -/
inductive Event where
  /-- The host's access takes effect. -/
  | access (a : Access)
  /-- An engine clock cycle: `cnt` counts down, or the completion step is taken (10_state.md R39). -/
  | cycle
  /-- The hardware reset input is asserted. One event without duration: how long the input stays asserted, and what a host
  access does meanwhile, the spec does not say (DESIGN CHOICE, log 22). -/
  | hardReset
deriving DecidableEq, Repr

/-- The architectural and hidden state of the engine, and three fields of the model's own (INVENTORY.md, State). -/
structure State where
  /-- `F[0]` to `F[15]`, raw contents (10_state.md R21). -/
  f : Vector Reg 16
  /-- `E[0]` to `E[7]`, 1 meaning true (10_state.md R24). -/
  e : Vector Bool 8
  /-- `Q[0]` to `Q[3]` (10_state.md R25). -/
  q : Vector Point 4
  /-- `UB[0]` to `UB[95]` (10_state.md R27). -/
  ub : Vector Byte 96
  /-- `CTRL.IRQ_EN` (10_state.md R31). -/
  irqEn : Bool
  /-- `STATUS.BUSY` (10_state.md R32, R37). -/
  busy : Bool
  /-- `STATUS.DONE` (10_state.md R32). -/
  done : Bool
  /-- `STATUS.ERR` (10_state.md R32). -/
  err : Bool
  /-- `LASTCMD`, read at `CMD` (10_state.md R33). -/
  lastCmd : Word
  /-- `ERRCODE.CODE` (10_state.md R34). -/
  errCode : ErrCode
  /-- `ERRINFO.INFO` (10_state.md R35). -/
  errInfo : Word
  /-- `pending`, the command in flight (10_state.md R37). -/
  pending : Word
  /-- `cnt`, the engine clock cycles remaining (10_state.md R37). -/
  cnt : Nat
  /-- The model's own: what takes effect next, first entry first (log 5). -/
  schedule : List Event
  /-- The model's own: what the window answered to the host's last read (log 7). -/
  rdata : Option Word
  /-- The model's own: how many unspecified read values have been drawn (20_memory.md R57, log 4). -/
  draws : Nat
deriving DecidableEq, Repr

/-- Why a step stops. The engine's own errors are no faults: they are latched and the machine goes on (60_exceptions.md
R211). -/
inductive Fault where
  /-- Raised by a host access at an address outside the engine's 4096-byte window: there is nothing of this engine there
  (20_memory.md R50, log 9). Safe: the model stops where the platform goes on. -/
  | outsideWindow (addr : Nat)
  /-- Raised by the completion step when the word in flight is not a legal command. No run reaches it: a word enters flight
  only by 10_state.md R38 case (d) (log 10). Safe. -/
  | pendingNotLegal (w : Word)
deriving DecidableEq, Repr

/-- What a step has no meaning for. -/
inductive Refusal where
  /-- An instruction without a meaning yet. Raised by no arm of `exec`: every instruction has its meaning. Safe. -/
  | notModelled (mnemonic : String)
  /-- Raised by a host access of the window that is not 32-bit and aligned: "A model treats a refused access as refuse, the
  host step having no meaning" (20_memory.md R55, log 8). Safe. -/
  | busError (addr bytes : Nat)
deriving DecidableEq, Repr

/-- The machine right after reset, every value that of the table of 70_reset_and_hazards.md R230. The last three fields are
the model's own: nothing scheduled, nothing read, nothing drawn (DESIGN CHOICE, log 4, 5, 7). -/
def State.reset : State where
  f := Vector.replicate 16 0#256
  e := Vector.replicate 8 false
  q := Vector.replicate 4 Point.identity
  ub := Vector.replicate 96 0#8
  irqEn := false
  busy := false
  done := false
  err := false
  lastCmd := 0#32
  errCode := .none
  errInfo := 0#32
  pending := 0#32
  cnt := 0
  schedule := []
  rdata := none
  draws := 0

end Sys2Proof.Machine
end

