-- ==== Sys2Proof/Machine/CurveLaw.lean ====
section
/-! DEFINITION. The Simplified SWU map and the curve addition law (43_curve.md R160, R163), for any curve `c`. -/

namespace Sys2Proof.Machine

open Sys2Proof.Config (Curve)

/-- `swu_map(u)`, SWU steps 1 to 16 in order (43_curve.md R160). -/
def swuMap (c : Curve) (u : Nat) : Nat × Nat :=
  let tv1 := c.Z * u ^ 2 % c.p
  let tv2 := tv1 ^ 2 % c.p
  let inv := inv0 c ((tv1 + tv2) % c.p)
  let e1 := inv == 0
  let x1 := cmov ((inv + 1) % c.p) (c2 c) e1 * c1 c % c.p
  let gx1 := (x1 ^ 3 + c.A * x1 + c.B) % c.p
  let x2 := tv1 * x1 % c.p
  let gx2 := gx1 * (tv1 * tv2 % c.p) % c.p
  let e2 := isSquare c gx1
  let x := cmov x2 x1 e2
  let y2 := cmov gx2 gx1 e2
  let y := sqrtP c y2
  let e3 := sgn0 u == sgn0 y
  (x, cmov (resid c.p (-(y : Int))) y e3)

/-- A point register content from affine coordinates in `[0, p)` (10_state.md R25). -/
def Point.affine (x y : Nat) : Point := ⟨BitVec.ofNat 256 x, BitVec.ofNat 256 y, false⟩

/-- The point `(x3, y3, 0)` that a line of slope `l` through `(x1, y1)` gives when the sum of the two abscissas it meets is
`x1 + x2`: the common end of `pdbl` and `padd` (43_curve.md R163). -/
def chordEnd (c : Curve) (l x1 y1 x2 : Nat) : Point :=
  let x3 := resid c.p ((l : Int) ^ 2 - x1 - x2)
  let y3 := resid c.p ((l : Int) * ((x1 : Int) - x3) - y1)
  .affine x3 y3

/-- `pdbl(P)` (43_curve.md R163). -/
def pdbl (c : Curve) (P : Point) : Point :=
  let x1 := P.x.toNat
  let y1 := P.y.toNat
  if P.inf then .identity
  else if y1 = 0 then .identity
  else chordEnd c ((3 * x1 ^ 2 + c.A) * inv0 c (2 * y1 % c.p) % c.p) x1 y1 x1

/-- `padd(P, Q)` (43_curve.md R163). -/
def padd (c : Curve) (P Q : Point) : Point :=
  let x1 := P.x.toNat
  let y1 := P.y.toNat
  let x2 := Q.x.toNat
  let y2 := Q.y.toNat
  if P.inf then Q
  else if Q.inf then P
  else if x1 = x2 ∧ (y1 + y2) % c.p = 0 then .identity
  else if x1 = x2 then pdbl c P
  else chordEnd c (resid c.p (((y2 : Int) - y1) * inv0 c (resid c.p ((x2 : Int) - x1)))) x1 y1 x2

/-- The lift of a coordinate pair with its on-curve check (43_curve.md R161): nothing if a coordinate is `≥ p` or the pair is
not on the curve. -/
def lift (c : Curve) (x y : Nat) : Option Point :=
  if x ≥ c.p ∨ y ≥ c.p then none
  else if onCurve c x y then some (.affine x y) else none

end Sys2Proof.Machine
end

