-- ==== Sys2Proof/Machine/Ops.lean ====
section
/-! DEFINITION. The named operations over the registers, the error latch (60_exceptions.md R200) with the recovery from it
(R212), and reset (70_reset_and_hazards.md R230, R231). -/

namespace Sys2Proof.Machine

/-! ### Operand registers -/

/-- `F[i]`, raw (00_scope.md R16). -/
def State.getF (s : State) (i : FReg) : Reg := s.f[i.val]

/-- `F[i] <- v` (00_scope.md R16). -/
def State.setF (s : State) (i : FReg) (v : Reg) : State := { s with f := s.f.set i.val v }

/-- `E[i]` (00_scope.md R16). -/
def State.getE (s : State) (i : EReg) : Bool := s.e[i.val]

/-- `E[i] <- b` (00_scope.md R16). -/
def State.setE (s : State) (i : EReg) (b : Bool) : State := { s with e := s.e.set i.val b }

/-- `Q[i]` (00_scope.md R16). -/
def State.getQ (s : State) (i : QReg) : Point := s.q[i.val]

/-- `Q[i] <- (x, y, inf)` (00_scope.md R16). -/
def State.setQ (s : State) (i : QReg) (P : Point) : State := { s with q := s.q.set i.val P }

/-- `F[i] <- n` for a field value `n` (41_field_arith.md R112): "written as a 256-bit unsigned value". -/
def State.writeField (s : State) (i : FReg) (n : Nat) : State := s.setF i (BitVec.ofNat 256 n)

/-- `ZERO`'s wipe of all operand state (44_system.md R191). -/
def State.wipe (s : State) : State :=
  { s with
    f := Vector.replicate 16 0#256
    e := Vector.replicate 8 false
    q := Vector.replicate 4 Point.identity
    ub := Vector.replicate 96 0#8 }

/-! ### Errors: taking one, and recovering from it -/

/-- `latch(code, info)`: the first error is kept, later ones are lost (60_exceptions.md R200). -/
def State.latch (s : State) (code : ErrCode) (info : Word) : State :=
  if s.err then s else { s with err := true, errCode := code, errInfo := info }

/-- `raise Error(code)` of the command in flight: the latch with that command's word (00_scope.md R16, 10_state.md R39). The
command writes nothing else (60_exceptions.md R207). -/
def State.raise (s : State) (code : ErrCode) : State := s.latch code s.pending

/-- The host's write of 1 to `STATUS.ERR`: `ERR`, `ERRCODE` and `ERRINFO` become 0 (10_state.md R32, 60_exceptions.md R212). -/
def State.clearErr (s : State) : State := { s with err := false, errCode := .none, errInfo := 0#32 }

/-- The host's write of 1 to `STATUS.DONE` (10_state.md R32). -/
def State.clearDone (s : State) : State := { s with done := false }

/-! ### Command processing -/

/-- Acceptance of a word, 10_state.md R38 case (d). -/
def State.accept (s : State) (w : Word) : State :=
  { s with lastCmd := w, pending := w, cnt := Config.lat (opF w), busy := true }

/-- An engine clock cycle with `cnt > 0` (10_state.md R39). -/
def State.countDown (s : State) : State := { s with cnt := s.cnt - 1 }

/-- `BUSY <- 0; DONE <- 1` of the completion step (10_state.md R39). -/
def State.retire (s : State) : State := { s with busy := false, done := true }

/-- The rejection of an illegal word, 10_state.md R38 case (c). -/
def State.reject (s : State) (w : Word) : State := { s.latch .illegal w with done := true }

/-- The issue of a word by a `CMD` write, in the order of 10_state.md R38 (60_exceptions.md R208). -/
def State.issue (s : State) (w : Word) : State :=
  if s.busy then s.latch .overrun w
  else if s.err then s
  else if !legal w then s.reject w
  else s.accept w

/-! ### Reset -/

/-- Hardware reset (70_reset_and_hazards.md R230) and the effect of `CTRL.SRST` (R231): every piece of the engine's state to
its reset value. The model's own fields are not the engine's and stay (log 17). -/
def State.resetEngine (s : State) : State :=
  { State.reset with schedule := s.schedule, rdata := s.rdata, draws := s.draws }

/-! ### What stands around the engine (the model's own fields) -/

/-- The schedule after its first entry has taken effect. -/
def State.withSchedule (s : State) (es : List Event) : State := { s with schedule := es }

/-- The window answers a read with `v` (log 7). -/
def State.answer (s : State) (v : Word) : State := { s with rdata := some v }

/-- The window answers a read with an unspecified value (20_memory.md R57, log 4): the next free draw. -/
def State.answerFree (s : State) : State :=
  { s with rdata := some (Config.freeRead s.draws), draws := s.draws + 1 }

end Sys2Proof.Machine
end

