-- ==== Sys2Proof/Machine/Operands.lean ====
section
/-! DEFINITION. The operand forms of the commands: field values, the loadable constants, the halves of the uniform bytes. -/

namespace Sys2Proof.Machine

open Sys2Proof.Config (Curve)

/-- `fv(i) = F[i] mod p` (10_state.md R22). -/
def State.fv (s : State) (i : FReg) : Nat := (s.getF i).toNat % Config.curve.p

/-- `F[i]` as a raw unsigned integer: `FEXP`'s exponent and `QLIFT`'s coordinates (10_state.md R22). -/
def State.raw (s : State) (i : FReg) : Nat := (s.getF i).toNat

/-- The table `K` of 41_field_arith.md R110. -/
def constant (c : Curve) : FieldConst → Nat
  | .zero => 0
  | .one => 1
  | .a => c.A
  | .b => c.B
  | .z => c.Z
  | .c1 => c1 c
  | .c2 => c2 c
  | .euler => (c.p - 1) / 2
  | .sqrtExp => (c.p + 1) / 4
  | .invExp => c.p - 2

/-- Half `h` of the uniform bytes as a 384-bit big-endian integer (41_field_arith.md R111). -/
def halfValue (ub : Vector Byte 96) (h : Half) : Nat :=
  ((List.finRange 48).map fun j => (ub[48 * h.val + j.val]'(by omega)).toNat * 256 ^ (47 - j.val)).sum

/-- Half `h` of `UB` reduced modulo `p` (41_field_arith.md R111, 43_curve.md R169). -/
def State.half (s : State) (h : Half) : Nat := halfValue s.ub h % Config.curve.p

end Sys2Proof.Machine
end

