-- ==== Sys2Proof/Machine/Flags.lean ====
section
/-! DEFINITION. Every one-bit result: the predicates that the tests write (42_predicate_select.md), the status word and the
interrupt output (10_state.md R32, R36, R40). -/

namespace Sys2Proof.Machine

/-! ### Field tests -/

/-- `fv(a) = 0` (42_predicate_select.md R130). -/
def State.isZero (s : State) (a : FReg) : Bool := s.fv a == 0

/-- `fv(a) = fv(b)` (42_predicate_select.md R131). -/
def State.isEqual (s : State) (a b : FReg) : Bool := s.fv a == s.fv b

/-- `is_square(fv(a))` (42_predicate_select.md R132). -/
def State.isSq (s : State) (a : FReg) : Bool := isSquare Config.curve (s.fv a)

/-- `fv(a) mod 2` (42_predicate_select.md R133). -/
def State.parity (s : State) (a : FReg) : Bool := sgn0 (s.fv a) == 1

/-! ### Status -/

/-- A word with bit `i` set iff `b`. -/
def bitAt (i : Nat) (b : Bool) : Word := if b then 1#32 <<< i else 0#32

/-- The `CTRL` register as read: `SRST` and the reserved bits read as 0 (10_state.md R31). -/
def State.ctrlWord (s : State) : Word := bitAt 0 s.irqEn

/-- The `STATUS` register as read (10_state.md R32). -/
def State.statusWord (s : State) : Word := bitAt 0 s.busy ||| bitAt 1 s.done ||| bitAt 2 s.err

/-- The `CODE` numbers of 10_state.md R34. -/
def ErrCode.code : ErrCode → Word
  | .none => 0#32
  | .illegal => 1#32
  | .decode => 2#32
  | .overrun => 3#32
  | .busyWrite => 4#32

/-- The `PRED` register as read: bit `i` is `E[i]` (10_state.md R36). -/
def State.predWord (s : State) : Word :=
  bitAt 0 s.e[0] ||| bitAt 1 s.e[1] ||| bitAt 2 s.e[2] ||| bitAt 3 s.e[3] ||| bitAt 4 s.e[4] ||| bitAt 5 s.e[5] |||
    bitAt 6 s.e[6] ||| bitAt 7 s.e[7]

/-- The predicates that a word written to `PRED` sets (10_state.md R36). -/
def predBits (v : Word) : Vector Bool 8 :=
  #v[v.getLsbD 0, v.getLsbD 1, v.getLsbD 2, v.getLsbD 3, v.getLsbD 4, v.getLsbD 5, v.getLsbD 6, v.getLsbD 7]

/-- The interrupt output `irq = CTRL.IRQ_EN and (STATUS.DONE or STATUS.ERR)` (10_state.md R40). -/
def State.irq (s : State) : Bool := s.irqEn && (s.done || s.err)

end Sys2Proof.Machine
end

