-- ==== Sys2Proof/Machine/Arith.lean ====
section
/-! DEFINITION. The field arithmetic commands (41_field_arith.md). Each writes the exact result in `GF(p)` (R112), reading
its sources before it writes (R113). -/

namespace Sys2Proof.Machine

open Sys2Proof.Config (curve)

/-- `FADD` (41_field_arith.md R100). -/
def execFadd (d a b : FReg) (s : State) : Host.Outcome State Fault Refusal :=
  .next (s.writeField d ((s.fv a + s.fv b) % curve.p))

/-- `FSUB` (41_field_arith.md R101). -/
def execFsub (d a b : FReg) (s : State) : Host.Outcome State Fault Refusal :=
  .next (s.writeField d (resid curve.p ((s.fv a : Int) - s.fv b)))

/-- `FNEG` (41_field_arith.md R102). -/
def execFneg (d a : FReg) (s : State) : Host.Outcome State Fault Refusal :=
  .next (s.writeField d (resid curve.p (-(s.fv a : Int))))

/-- `FMUL` (41_field_arith.md R103). -/
def execFmul (d a b : FReg) (s : State) : Host.Outcome State Fault Refusal :=
  .next (s.writeField d (s.fv a * s.fv b % curve.p))

/-- `FSQR` (41_field_arith.md R104). -/
def execFsqr (d a : FReg) (s : State) : Host.Outcome State Fault Refusal :=
  .next (s.writeField d (s.fv a * s.fv a % curve.p))

/-- `FINV` (41_field_arith.md R105): zero gives zero, with no error (R114). -/
def execFinv (d a : FReg) (s : State) : Host.Outcome State Fault Refusal :=
  .next (s.writeField d (inv0 curve (s.fv a)))

/-- `FDIV` (41_field_arith.md R106): a zero divisor gives zero, with no error (R114). -/
def execFdiv (d a b : FReg) (s : State) : Host.Outcome State Fault Refusal :=
  .next (s.writeField d (s.fv a * inv0 curve (s.fv b) % curve.p))

/-- `FEXP` (41_field_arith.md R108): the exponent is the raw `F[b]`. -/
def execFexp (d a b : FReg) (s : State) : Host.Outcome State Fault Refusal :=
  .next (s.writeField d (powMod curve.p (s.fv a) (s.raw b)))

/-- `FSQRT` (41_field_arith.md R109): the formula, with no squareness check. -/
def execFsqrt (d a : FReg) (s : State) : Host.Outcome State Fault Refusal :=
  .next (s.writeField d (sqrtP curve (s.fv a)))

/-- `FMOV` (41_field_arith.md R107). -/
def execFmov (d a : FReg) (s : State) : Host.Outcome State Fault Refusal :=
  .next (s.writeField d (s.fv a))

/-- `FLDK` (41_field_arith.md R110). -/
def execFldk (d : FReg) (k : FieldConst) (s : State) : Host.Outcome State Fault Refusal :=
  .next (s.writeField d (constant curve k))

/-- `FLDU` (41_field_arith.md R111). -/
def execFldu (d : FReg) (h : Half) (s : State) : Host.Outcome State Fault Refusal :=
  .next (s.writeField d (s.half h))

end Sys2Proof.Machine
end

