-- ==== Sys2Proof/Machine/Points.lean ====
section
/-! DEFINITION. The mapper and the point commands (43_curve.md). -/

namespace Sys2Proof.Machine

open Sys2Proof.Config (curve)

/-- `SWU` (43_curve.md R160): the input is read before either write, and no on-curve check is made. -/
def execSwu (d a b : FReg) (s : State) : Host.Outcome State Fault Refusal :=
  let xy := swuMap curve (s.fv a)
  .next ((s.writeField d xy.1).writeField b xy.2)

/-- `QLIFT` (43_curve.md R161): raw coordinates; a value `≥ p` or a pair not on the curve raises `DECODE`. -/
def execQlift (d : QReg) (a b : FReg) (s : State) : Host.Outcome State Fault Refusal :=
  match lift curve (s.raw a) (s.raw b) with
  | some P => .next (s.setQ d P)
  | none => .next (s.raise .decode)

/-- `QINF` (43_curve.md R162). -/
def execQinf (d : QReg) (s : State) : Host.Outcome State Fault Refusal := .next (s.setQ d .identity)

/-- `QGETX` (43_curve.md R164). -/
def execQgetx (d : FReg) (a : QReg) (s : State) : Host.Outcome State Fault Refusal := .next (s.setF d (s.getQ a).x)

/-- `QGETY` (43_curve.md R165). -/
def execQgety (d : FReg) (a : QReg) (s : State) : Host.Outcome State Fault Refusal := .next (s.setF d (s.getQ a).y)

/-- `QISINF` (43_curve.md R166). -/
def execQisinf (d : EReg) (a : QReg) (s : State) : Host.Outcome State Fault Refusal := .next (s.setE d (s.getQ a).inf)

/-- `QADD` (43_curve.md R167). -/
def execQadd (d a b : QReg) (s : State) : Host.Outcome State Fault Refusal :=
  .next (s.setQ d (padd curve (s.getQ a) (s.getQ b)))

/-- `QDBL` (43_curve.md R168). -/
def execQdbl (d a : QReg) (s : State) : Host.Outcome State Fault Refusal := .next (s.setQ d (pdbl curve (s.getQ a)))

/-- `H2C` (43_curve.md R169): both checks precede the addition (90_conflicts.md C7). -/
def execH2c (d : QReg) (s : State) : Host.Outcome State Fault Refusal :=
  let p0 := swuMap curve (s.half 0)
  let p1 := swuMap curve (s.half 1)
  if !onCurve curve p0.1 p0.2 || !onCurve curve p1.1 p1.2 then .next (s.raise .decode)
  else .next (s.setQ d (padd curve (.affine p0.1 p0.2) (.affine p1.1 p1.2)))

end Sys2Proof.Machine
end

