-- ==== Sys2Proof/Machine/Predicate.lean ====
section
/-! DEFINITION. Tests, predicate logic and the constant-time select (42_predicate_select.md). Each writes exactly one
register (R141). -/

namespace Sys2Proof.Machine

/-- `FISZ` (42_predicate_select.md R130). -/
def execFisz (d : EReg) (a : FReg) (s : State) : Host.Outcome State Fault Refusal := .next (s.setE d (s.isZero a))

/-- `FEQ` (42_predicate_select.md R131). -/
def execFeq (d : EReg) (a b : FReg) (s : State) : Host.Outcome State Fault Refusal := .next (s.setE d (s.isEqual a b))

/-- `FISSQ` (42_predicate_select.md R132). -/
def execFissq (d : EReg) (a : FReg) (s : State) : Host.Outcome State Fault Refusal := .next (s.setE d (s.isSq a))

/-- `FSGN0` (42_predicate_select.md R133): the parity of the reduced value. -/
def execFsgn0 (d : EReg) (a : FReg) (s : State) : Host.Outcome State Fault Refusal := .next (s.setE d (s.parity a))

/-- `FCMOV` (42_predicate_select.md R134). -/
def execFcmov (d a b : FReg) (e : EReg) (s : State) : Host.Outcome State Fault Refusal :=
  .next (s.writeField d (cmov (s.fv a) (s.fv b) (s.getE e)))

/-- `PAND` (42_predicate_select.md R135). -/
def execPand (d a b : EReg) (s : State) : Host.Outcome State Fault Refusal := .next (s.setE d (s.getE a && s.getE b))

/-- `POR` (42_predicate_select.md R136). -/
def execPor (d a b : EReg) (s : State) : Host.Outcome State Fault Refusal := .next (s.setE d (s.getE a || s.getE b))

/-- `PXOR` (42_predicate_select.md R137). -/
def execPxor (d a b : EReg) (s : State) : Host.Outcome State Fault Refusal := .next (s.setE d (s.getE a ^^ s.getE b))

/-- `PXNOR` (42_predicate_select.md R138). -/
def execPxnor (d a b : EReg) (s : State) : Host.Outcome State Fault Refusal := .next (s.setE d (!(s.getE a ^^ s.getE b)))

/-- `PNOT` (42_predicate_select.md R139). -/
def execPnot (d a : EReg) (s : State) : Host.Outcome State Fault Refusal := .next (s.setE d (!s.getE a))

/-- `PSET` (42_predicate_select.md R140). -/
def execPset (d : EReg) (v : Bool) (s : State) : Host.Outcome State Fault Refusal := .next (s.setE d v)

end Sys2Proof.Machine
end

