-- ==== Sys2Proof/Machine/System.lean ====
section
/-! DEFINITION. The system commands (44_system.md). -/

namespace Sys2Proof.Machine

/-- `NOP` (44_system.md R190): "Pseudocode: nothing"; its completion is that of every command (10_state.md R39). -/
def execNop (s : State) : Host.Outcome State Fault Refusal := .next s

/-- `ZERO` (44_system.md R191). -/
def execZero (s : State) : Host.Outcome State Fault Refusal := .next s.wipe

end Sys2Proof.Machine
end

