-- ==== Sys2Proof/Machine/Dispatch.lean ====
section
/-! DEFINITION. `Execute` (10_state.md R39): one arm per command, each a direct call of its meaning. -/

namespace Sys2Proof.Machine

/-- `Execute` of one command: its operand writes, or the latch of the error it raises. `BUSY` and `DONE` are the completion
step's (Machine/Engine.lean, log 18). -/
def exec (i : Instr) (s : State) : Host.Outcome State Fault Refusal :=
  match i with
  | .nop => Sys2Proof.Machine.execNop s
  | .fadd d a b => Sys2Proof.Machine.execFadd d a b s
  | .fsub d a b => Sys2Proof.Machine.execFsub d a b s
  | .fneg d a => Sys2Proof.Machine.execFneg d a s
  | .fmul d a b => Sys2Proof.Machine.execFmul d a b s
  | .fsqr d a => Sys2Proof.Machine.execFsqr d a s
  | .finv d a => Sys2Proof.Machine.execFinv d a s
  | .fdiv d a b => Sys2Proof.Machine.execFdiv d a b s
  | .fexp d a b => Sys2Proof.Machine.execFexp d a b s
  | .fsqrt d a => Sys2Proof.Machine.execFsqrt d a s
  | .fmov d a => Sys2Proof.Machine.execFmov d a s
  | .fldk d k => Sys2Proof.Machine.execFldk d k s
  | .fldu d h => Sys2Proof.Machine.execFldu d h s
  | .fisz d a => Sys2Proof.Machine.execFisz d a s
  | .feq d a b => Sys2Proof.Machine.execFeq d a b s
  | .fissq d a => Sys2Proof.Machine.execFissq d a s
  | .fsgn0 d a => Sys2Proof.Machine.execFsgn0 d a s
  | .fcmov d a b e => Sys2Proof.Machine.execFcmov d a b e s
  | .pand d a b => Sys2Proof.Machine.execPand d a b s
  | .por d a b => Sys2Proof.Machine.execPor d a b s
  | .pxor d a b => Sys2Proof.Machine.execPxor d a b s
  | .pxnor d a b => Sys2Proof.Machine.execPxnor d a b s
  | .pnot d a => Sys2Proof.Machine.execPnot d a s
  | .pset d v => Sys2Proof.Machine.execPset d v s
  | .swu d a b => Sys2Proof.Machine.execSwu d a b s
  | .qlift d a b => Sys2Proof.Machine.execQlift d a b s
  | .qinf d => Sys2Proof.Machine.execQinf d s
  | .qgetx d a => Sys2Proof.Machine.execQgetx d a s
  | .qgety d a => Sys2Proof.Machine.execQgety d a s
  | .qisinf d a => Sys2Proof.Machine.execQisinf d a s
  | .qadd d a b => Sys2Proof.Machine.execQadd d a b s
  | .qdbl d a => Sys2Proof.Machine.execQdbl d a s
  | .h2c d => Sys2Proof.Machine.execH2c d s
  | .zero => Sys2Proof.Machine.execZero s

end Sys2Proof.Machine
end

