-- ==== Sys2Proof/Machine/Window.lean ====
section
/-! DEFINITION. The host window: its map, its reads and its writes, idle and busy (20_memory.md R50 to R59). -/

namespace Sys2Proof.Machine

/-- What a word of the window holds (20_memory.md R50, R51, R53, R54, 10_state.md R29). -/
inductive Slot where
  | id | ctrl | status | cmd | errCode | errInfo | pred
  /-- Word `k` of `F[i]`. -/
  | f (i : FReg) (k : Fin 8)
  /-- Word `k` of `Q[n].x`. -/
  | qx (n : QReg) (k : Fin 8)
  /-- Word `k` of `Q[n].y`. -/
  | qy (n : QReg) (k : Fin 8)
  | qinf (n : QReg)
  /-- Bytes `4·m` to `4·m+3` of `UB`. -/
  | ub (m : Fin 24)
  | reserved
deriving DecidableEq, Repr

/-- What stands at an offset that is a multiple of 4 (20_memory.md R50, R51, R53, R54). -/
def slotAt (off : Nat) : Slot :=
  if off = 0x000 then .id
  else if off = 0x004 then .ctrl
  else if off = 0x008 then .status
  else if off = 0x00C then .cmd
  else if off = 0x010 then .errCode
  else if off = 0x014 then .errInfo
  else if off = 0x018 then .pred
  else if h : 0x100 ≤ off ∧ off < 0x300 then
    .f ⟨(off - 0x100) / 0x20, by omega⟩ ⟨(off - 0x100) % 0x20 / 4, by omega⟩
  else if h : 0x300 ≤ off ∧ off < 0x500 then
    if hx : (off - 0x300) % 0x80 < 0x20 then .qx ⟨(off - 0x300) / 0x80, by omega⟩ ⟨(off - 0x300) % 0x80 / 4, by omega⟩
    else if hy : (off - 0x300) % 0x80 < 0x40 then
      .qy ⟨(off - 0x300) / 0x80, by omega⟩ ⟨((off - 0x300) % 0x80 - 0x20) / 4, by omega⟩
    else if (off - 0x300) % 0x80 = 0x40 then .qinf ⟨(off - 0x300) / 0x80, by omega⟩
    else .reserved
  else if h : 0x500 ≤ off ∧ off < 0x560 then .ub ⟨(off - 0x500) / 4, by omega⟩
  else .reserved

/-- Word `k` of a 256-bit value, least significant word first (20_memory.md R51). -/
def wordOf (r : Reg) (k : Fin 8) : Word := r.extractLsb' (32 * k.val) 32

/-- A 256-bit value with its word `k` replaced (20_memory.md R52). -/
def withWord (r : Reg) (k : Fin 8) (v : Word) : Reg :=
  (r &&& ~~~((0xffffffff#32).setWidth 256 <<< (32 * k.val))) ||| (v.setWidth 256 <<< (32 * k.val))

/-- The `UB` word `m`: its first byte in bits 31:24 (20_memory.md R54). -/
def ubWord (ub : Vector Byte 96) (m : Fin 24) : Word :=
  ub[4 * m.val] ++ ub[4 * m.val + 1] ++ ub[4 * m.val + 2] ++ ub[4 * m.val + 3]

/-- `UB` with its word `m` replaced (20_memory.md R54). -/
def withUbWord (ub : Vector Byte 96) (m : Fin 24) (v : Word) : Vector Byte 96 :=
  (((ub.set (4 * m.val) (v.extractLsb' 24 8)).set (4 * m.val + 1) (v.extractLsb' 16 8)).set (4 * m.val + 2)
    (v.extractLsb' 8 8)).set (4 * m.val + 3) (v.extractLsb' 0 8)

/-- The slots of `F`, `Q`, `UB` and `PRED`, whose reads while busy are unspecified (20_memory.md R57). The reserved offsets
inside the `Q` range are reserved offsets: they "return their defined values while busy" (DEDUCED, log 15). -/
def Slot.unspecifiedWhileBusy : Slot → Bool
  | .pred | .f .. | .qx .. | .qy .. | .qinf .. | .ub .. => true
  | .id | .ctrl | .status | .cmd | .errCode | .errInfo | .reserved => false

/-- The value a slot defines (20_memory.md R50 to R54, 10_state.md R29 to R36). -/
def State.slotWord (s : State) : Slot → Word
  | .id => Config.idValue
  | .ctrl => s.ctrlWord
  | .status => s.statusWord
  | .cmd => s.lastCmd
  | .errCode => s.errCode.code
  | .errInfo => s.errInfo
  | .pred => s.predWord
  | .f i k => wordOf (s.getF i) k
  | .qx n k => wordOf (s.getQ n).x k
  | .qy n k => wordOf (s.getQ n).y k
  | .qinf n => bitAt 0 (s.getQ n).inf
  | .ub m => ubWord s.ub m
  | .reserved => 0#32

/-- `MemRead(BASE + off, 4)` (20_memory.md R52 to R54, R57, R58): the engine's state stays, the answer is left in `rdata`. -/
def State.memRead (s : State) (off : Nat) : State :=
  if s.busy && (slotAt off).unspecifiedWhileBusy then s.answerFree else s.answer (s.slotWord (slotAt off))

/-- Word `k` of `F[i]` replaced by the host (20_memory.md R52). -/
def State.setFWord (s : State) (i : FReg) (k : Fin 8) (v : Word) : State := s.setF i (withWord (s.getF i) k v)

/-- Word `m` of `UB` replaced by the host (20_memory.md R54). -/
def State.setUbWord (s : State) (m : Fin 24) (v : Word) : State := { s with ub := withUbWord s.ub m v }

/-- All predicates written by the host (10_state.md R36). -/
def State.setPred (s : State) (v : Word) : State := { s with e := predBits v }

/-- `CTRL.IRQ_EN` written by the host (10_state.md R31). -/
def State.setIrqEn (s : State) (b : Bool) : State := { s with irqEn := b }

/-- A `CTRL` write (10_state.md R31): with `SRST` set a soft reset, which ignores the written `IRQ_EN`. -/
def State.writeCtrl (s : State) (v : Word) : State :=
  if v.getLsbD 1 then s.resetEngine else s.setIrqEn (v.getLsbD 0)

/-- A `STATUS` write: bits 1 and 2 clear `DONE` and `ERR` (10_state.md R32). -/
def State.writeStatus (s : State) (v : Word) : State :=
  let s := if v.getLsbD 1 then s.clearDone else s
  if v.getLsbD 2 then s.clearErr else s

/-- A write to operand state at offset `off`: while busy it is ignored and latches `BUSYWRITE` with the offset
(20_memory.md R56, 60_exceptions.md R205); `t` is the state it leads to while idle. -/
def State.operandWrite (s : State) (off : Nat) (t : State) : State :=
  if s.busy then s.latch .busyWrite (BitVec.ofNat 32 off) else t

/-- `MemWrite(BASE + off, 4, v)` (20_memory.md R50 to R56, 10_state.md R29 to R38). -/
def State.memWrite (s : State) (off : Nat) (v : Word) : State :=
  match slotAt off with
  | .cmd => s.issue v
  | .ctrl => s.writeCtrl v
  | .status => s.writeStatus v
  | .pred => s.operandWrite off (s.setPred v)
  | .f i k => s.operandWrite off (s.setFWord i k v)
  | .ub m => s.operandWrite off (s.setUbWord m v)
  | .id | .errCode | .errInfo | .qx .. | .qy .. | .qinf .. | .reserved => s

/-- The window accepts an access of `bytes` bytes at `off` (20_memory.md R55). -/
def accepted (off bytes : Nat) : Bool := bytes == 4 && off % 4 == 0

/-- `addr` falls in the window at `BASE` to `BASE + 0xFFF` (20_memory.md R50). -/
def inWindow (addr : Nat) : Bool := Config.base ≤ addr && addr < Config.base + 4096

/-- A host access takes effect, is refused on the bus (20_memory.md R55, log 8), or is not an access of this engine (log 9). -/
def hostAccess (a : Access) (s : State) : Host.Outcome State Fault Refusal :=
  match a with
  | .read addr bytes =>
    if !inWindow addr then .fault (.outsideWindow addr)
    else if !accepted (addr - Config.base) bytes then .refused (.busError addr bytes)
    else .next (s.memRead (addr - Config.base))
  | .write addr bytes v =>
    if !inWindow addr then .fault (.outsideWindow addr)
    else if !accepted (addr - Config.base) bytes then .refused (.busError addr bytes)
    else .next (s.memWrite (addr - Config.base) v)

end Sys2Proof.Machine
end

