-- ==== Sys2Proof/Machine/Engine.lean ====
section
/-! DEFINITION. The engine's own steps (10_state.md R39) and the effect of one scheduled event (20_memory.md R61). -/

namespace Sys2Proof.Machine

/-- What the completion step does once the command in flight is known: `Execute`, then `BUSY <- 0` and `DONE <- 1`
(10_state.md R39). `DONE` is set whether the command succeeds or fails (60_exceptions.md R201). -/
def completeWith (i : Instr) (s : State) : Host.Outcome State Fault Refusal :=
  match exec i s with
  | .next t => .next t.retire
  | .fault r => .fault r
  | .refused r => .refused r

/-- The completion step: one atomic transition (10_state.md R39). -/
def complete (s : State) : Host.Outcome State Fault Refusal :=
  match decode s.pending with
  | .ok i => completeWith i s
  | .error _ => .fault (.pendingNotLegal s.pending)

/-- One engine clock cycle (10_state.md R39): idle, counting down, or completing (log 21). -/
def engineCycle (s : State) : Host.Outcome State Fault Refusal :=
  if !s.busy then .next s
  else if s.cnt = 0 then complete s
  else .next s.countDown

/-- One event takes effect. A hardware reset (70_reset_and_hazards.md R230) is one instant: the spec does not say how long its
input stays asserted, nor what a host access does meanwhile (DESIGN CHOICE, log 22). -/
def happen (e : Event) (s : State) : Host.Outcome State Fault Refusal :=
  match e with
  | .access a => hostAccess a s
  | .cycle => engineCycle s
  | .hardReset => .next s.resetEngine

/-- The state in which the word `w` has been accepted (10_state.md R38 case (d)), its cycles have gone by, and the next event
is the engine's. -/
def State.inFlight (s : State) (w : Word) : State :=
  { s with lastCmd := w, pending := w, cnt := 0, busy := true, schedule := .cycle :: s.schedule }

end Sys2Proof.Machine
end

