-- ==== Sys2Proof/Machine/Step.lean ====
section
/-! DEFINITION. One step of the machine: the first event of the schedule takes effect; with nothing scheduled the host is
quiet and an engine clock cycle goes by (log 5, log 6). -/

namespace Sys2Proof.Machine

/-- One step. Every interleaving that 20_memory.md R61 and 60_exceptions.md R209 admit is the run of some schedule. -/
def step (s : State) : Host.Outcome State Fault Refusal :=
  match s.schedule with
  | [] => happen .cycle s
  | e :: es => happen e (s.withSchedule es)

/-- The engine takes its next instruction from `pending`, the word in flight (10_state.md R39): `s` with the word `w` there,
due at the very next step (log 16). -/
def State.withFetchWord (s : State) (nbits w : Nat) : State := s.inFlight (BitVec.ofNat 32 (w % 2 ^ nbits))

end Sys2Proof.Machine
end

