-- ==== Sys2Proof/Safety.lean ====
section
/-! DEFINITION. The terms in which claims about the engine are made: what a change leaves alone, the invariants that every
step keeps, and the spec's formulas written with plain arithmetic. -/

namespace Sys2Proof.Safety

open Sys2Proof.Machine

/-! ### Frames -/

/-- The operand state `F`, `E`, `Q` and `UB` (00_scope.md R19) is the same in `t` as in `s`. -/
def SameOperands (s t : State) : Prop := t.f = s.f ∧ t.e = s.e ∧ t.q = s.q ∧ t.ub = s.ub

/-- The error latch `ERR`, `ERRCODE`, `ERRINFO` (60_exceptions.md R200) is the same in `t` as in `s`. -/
def SameLatch (s t : State) : Prop := t.err = s.err ∧ t.errCode = s.errCode ∧ t.errInfo = s.errInfo

/-- Everything but operand state and error latch is the same in `t` as in `s`: `IRQ_EN`, `BUSY`, `DONE`, `LASTCMD`,
`pending`, `cnt`, and the model's own fields. -/
def SameControl (s t : State) : Prop :=
  t.irqEn = s.irqEn ∧ t.busy = s.busy ∧ t.done = s.done ∧ t.lastCmd = s.lastCmd ∧ t.pending = s.pending ∧ t.cnt = s.cnt ∧
    t.schedule = s.schedule ∧ t.rdata = s.rdata ∧ t.draws = s.draws

/-- The whole state but for the model's own fields is the same in `t` as in `s`. -/
def SameEngine (s t : State) : Prop :=
  SameOperands s t ∧ SameLatch s t ∧ t.irqEn = s.irqEn ∧ t.busy = s.busy ∧ t.done = s.done ∧ t.lastCmd = s.lastCmd ∧
    t.pending = s.pending ∧ t.cnt = s.cnt

/-- Nothing but `F[d]` differs between `s` and `t`. -/
def OnlyF (s t : State) (d : FReg) : Prop :=
  (∀ i, i ≠ d → t.getF i = s.getF i) ∧ t.e = s.e ∧ t.q = s.q ∧ t.ub = s.ub ∧ SameLatch s t ∧ SameControl s t

/-- Nothing but `E[d]` differs between `s` and `t`. -/
def OnlyE (s t : State) (d : EReg) : Prop :=
  t.f = s.f ∧ (∀ i, i ≠ d → t.getE i = s.getE i) ∧ t.q = s.q ∧ t.ub = s.ub ∧ SameLatch s t ∧ SameControl s t

/-- Nothing but `Q[d]` differs between `s` and `t`. -/
def OnlyQ (s t : State) (d : QReg) : Prop :=
  t.f = s.f ∧ t.e = s.e ∧ (∀ i, i ≠ d → t.getQ i = s.getQ i) ∧ t.ub = s.ub ∧ SameLatch s t ∧ SameControl s t

/-- The field registers that a command writes, as its own rule says (41_field_arith.md, 42_predicate_select.md R134,
43_curve.md R160, R164, R165, 44_system.md R191). -/
def fieldDests : Instr → List FReg
  | .fadd d _ _ | .fsub d _ _ | .fneg d _ | .fmul d _ _ | .fsqr d _ | .finv d _ | .fdiv d _ _ | .fexp d _ _ | .fsqrt d _
  | .fmov d _ | .fldk d _ | .fldu d _ | .fcmov d _ _ _ | .qgetx d _ | .qgety d _ => [d]
  | .swu d _ b => [d, b]
  | .zero => List.finRange 16
  | .nop | .fisz _ _ | .feq _ _ _ | .fissq _ _ | .fsgn0 _ _ | .pand _ _ _ | .por _ _ _ | .pxor _ _ _ | .pxnor _ _ _
  | .pnot _ _ | .pset _ _ | .qlift _ _ _ | .qinf _ | .qisinf _ _ | .qadd _ _ _ | .qdbl _ _ | .h2c _ => []

/-- `t` is `s` with the error taken, in the words of 60_exceptions.md R200: latched if none was latched before, lost
otherwise, and nothing else changed. -/
def ErrorTaken (s t : State) (code : ErrCode) (info : Word) : Prop :=
  SameOperands s t ∧ SameControl s t ∧ (s.err = false → t.err = true ∧ t.errCode = code ∧ t.errInfo = info) ∧
    (s.err = true → SameLatch s t)

/-- Every piece of the engine's state is at its value of 70_reset_and_hazards.md R230. -/
def AtReset (t : State) : Prop :=
  (∀ i, t.getF i = 0#256) ∧ (∀ i, t.getE i = false) ∧ (∀ i, t.getQ i = ⟨0#256, 0#256, true⟩) ∧
    (∀ j : Fin 96, t.ub[j.val] = 0#8) ∧ t.irqEn = false ∧ t.busy = false ∧ t.done = false ∧ t.err = false ∧
    t.lastCmd = 0#32 ∧ t.errCode = .none ∧ t.errInfo = 0#32 ∧ t.pending = 0#32 ∧ t.cnt = 0 ∧ t.irq = false

/-! ### Invariants -/

/-- 10_state.md R26 for one point: the identity `(0, 0, 1)`, or canonical coordinates of a point on the curve. -/
def PointOk (P : Point) : Prop :=
  P = ⟨0#256, 0#256, true⟩ ∨
    (P.inf = false ∧ P.x.toNat < Config.curve.p ∧ P.y.toNat < Config.curve.p ∧
      P.y.toNat ^ 2 % Config.curve.p =
        (P.x.toNat ^ 3 + Config.curve.A * P.x.toNat + Config.curve.B) % Config.curve.p)

/-- The invariant of 10_state.md R26. -/
def PointsOk (s : State) : Prop := ∀ n, PointOk (s.getQ n)

/-- The invariant of the command processing state and the error latch (10_state.md R33 to R39, 60_exceptions.md R200). -/
structure ControlOk (s : State) : Prop where
  /-- Only a legal word is in flight (R38 case (d)). -/
  pendingLegal : s.busy = true → legal s.pending = true
  /-- The word in flight is the last accepted one (R33, R38). -/
  pendingLast : s.busy = true → s.lastCmd = s.pending
  /-- A command has at most its latency left (R39). -/
  cntBound : s.busy = true → s.cnt ≤ Config.lat (opF s.pending)
  /-- Nothing is counted while idle. -/
  cntIdle : s.busy = false → s.cnt = 0
  /-- With no error latched, code and information are 0 (R34, R35). -/
  latchClear : s.err = false → s.errCode = .none ∧ s.errInfo = 0#32
  /-- With an error latched, its code says which (R34). -/
  latchSet : s.err = true → s.errCode ≠ .none

/-! ### The spec's formulas in plain arithmetic -/

/-- `x^(p−2) mod p` (00_scope.md R17). -/
def fermatInv (x : Nat) : Nat := x ^ (Config.curve.p - 2) % Config.curve.p

/-- `x^((p−1)/2) mod p ∈ {0, 1}` (00_scope.md R17). -/
def EulerSquare (x : Nat) : Prop :=
  x ^ ((Config.curve.p - 1) / 2) % Config.curve.p = 0 ∨ x ^ ((Config.curve.p - 1) / 2) % Config.curve.p = 1

/-- `x^((p+1)/4) mod p` (00_scope.md R17). -/
def rootFormula (x : Nat) : Nat := x ^ ((Config.curve.p + 1) / 4) % Config.curve.p

/-- The 48 bytes of half `h` as a big-endian integer (41_field_arith.md R111). -/
def bigEndian (ub : Vector Byte 96) (h : Half) : Nat :=
  ∑ j : Fin 48, (ub[48 * h.val + j.val]'(by omega)).toNat * 256 ^ (47 - j.val)

/-- `(x, y)` is what SWU steps 1 to 16 give for `u`, step by step (43_curve.md R160). -/
def SwuSteps (u x y : Nat) : Prop :=
  let p := Config.curve.p
  ∃ tv1 tv2 i x1 gx1 x2 gx2 y2 r : Nat,
    tv1 = Config.curve.Z * u ^ 2 % p ∧
    tv2 = tv1 ^ 2 % p ∧
    i = fermatInv ((tv1 + tv2) % p) ∧
    (i = 0 → x1 = c2 Config.curve * c1 Config.curve % p) ∧
    (i ≠ 0 → x1 = (i + 1) % p * c1 Config.curve % p) ∧
    gx1 = (x1 ^ 3 + Config.curve.A * x1 + Config.curve.B) % p ∧
    x2 = tv1 * x1 % p ∧
    gx2 = gx1 * (tv1 * tv2 % p) % p ∧
    (EulerSquare gx1 → x = x1 ∧ y2 = gx1) ∧
    (¬ EulerSquare gx1 → x = x2 ∧ y2 = gx2) ∧
    r = rootFormula y2 ∧
    (u % 2 = r % 2 → y = r) ∧
    (u % 2 ≠ r % 2 → (y : Int) = (-(r : Int)) % p)

/-- The end of a line of slope `l` in the addition law: `x3 = (l² − x1 − x2) mod p`, `y3 = (l·(x1 − x3) − y1) mod p`
(43_curve.md R163). -/
def LineEnd (l x1 y1 x2 : Int) (R : Point) : Prop :=
  (R.x.toNat : Int) = (l ^ 2 - x1 - x2) % Config.curve.p ∧
    (R.y.toNat : Int) = (l * (x1 - R.x.toNat) - y1) % Config.curve.p ∧ R.inf = false

/-- `R = pdbl(P)`, case by case (43_curve.md R163). -/
def Doubling (P R : Point) : Prop :=
  (P.inf = true → R = ⟨0#256, 0#256, true⟩) ∧
    (P.inf = false → P.y.toNat = 0 → R = ⟨0#256, 0#256, true⟩) ∧
    (P.inf = false → P.y.toNat ≠ 0 →
      LineEnd ((3 * P.x.toNat ^ 2 + Config.curve.A) * fermatInv (2 * P.y.toNat % Config.curve.p) % Config.curve.p : Nat)
        P.x.toNat P.y.toNat P.x.toNat R)

/-- `R = padd(P, Q)`, case by case (43_curve.md R163). -/
def Addition (P Q R : Point) : Prop :=
  let p := Config.curve.p
  (P.inf = true → R = Q) ∧
    (P.inf = false → Q.inf = true → R = P) ∧
    (P.inf = false → Q.inf = false → P.x = Q.x → (P.y.toNat + Q.y.toNat) % p = 0 → R = ⟨0#256, 0#256, true⟩) ∧
    (P.inf = false → Q.inf = false → P.x = Q.x → (P.y.toNat + Q.y.toNat) % p ≠ 0 → Doubling P R) ∧
    (P.inf = false → Q.inf = false → P.x ≠ Q.x →
      LineEnd
        ((((Q.y.toNat : Int) - P.y.toNat) * fermatInv (((Q.x.toNat : Int) - P.x.toNat) % p).toNat) % p)
        P.x.toNat P.y.toNat Q.x.toNat R)

/-- Runs `Execute` of the commands one after the other. -/
def execAll : List Instr → State → Host.Outcome State Fault Refusal
  | [], s => .next s
  | i :: is, s =>
    match exec i s with
    | .next t => execAll is t
    | .fault r => .fault r
    | .refused r => .refused r

end Sys2Proof.Safety
end

