-- ==== Sys2Proof/Certificates/Slice0/Obligations.lean ====
section
/-! DEFINITION. The statements for the provers, in the order of OBLIGATIONS.json. A statement whose docstring names a log
entry rests on a choice of the model there; the others formalise the rules their docstrings name. -/

open Sys2Proof Sys2Proof.Machine Sys2Proof.Safety

/-! ### Reset and the control registers -/

/-- 70_reset_and_hazards.md R230: reset, whatever the engine was doing, leaves every register at the table's value; the `ID`
register reads its constant; and the engine then accepts a command at once. -/
def Obligations.ResetPutsEveryRegisterAtItsValue : Prop :=
  AtReset State.reset ∧
    ∀ s : State,
      AtReset s.resetEngine ∧ (s.resetEngine.memRead 0x000).rdata = some 0x53575531#32 ∧
        ∀ w, legal w = true → (s.resetEngine.memWrite 0x00C w).busy = true ∧ (s.resetEngine.memWrite 0x00C w).err = false

/-- 70_reset_and_hazards.md R231: a `CTRL` write with `SRST` set resets everything, whatever bit 0 holds, also while busy and
also with an error latched; `SRST` and `IRQ_EN` then read as 0 and `ID` is as before. -/
def Obligations.SoftResetIsTheFullReset : Prop :=
  ∀ (s : State) (v : Word), v.getLsbD 1 = true →
    AtReset (s.memWrite 0x004 v) ∧ ((s.memWrite 0x004 v).memRead 0x004).rdata = some 0#32 ∧
      ((s.memWrite 0x004 v).memRead 0x000).rdata = (s.memRead 0x000).rdata

/-- 10_state.md R30, R34, R35: `ID`, `ERRCODE` and `ERRINFO` read as the constant, the code's number and the information, and
writes to them are ignored. -/
def Obligations.ReadOnlyRegistersReadTheirValues : Prop :=
  ∀ (s : State) (v : Word),
    (s.memRead 0x000).rdata = some 0x53575531#32 ∧ (s.memRead 0x014).rdata = some s.errInfo ∧
      (s.errCode = .none → (s.memRead 0x010).rdata = some 0#32) ∧
      (s.errCode = .illegal → (s.memRead 0x010).rdata = some 1#32) ∧
      (s.errCode = .decode → (s.memRead 0x010).rdata = some 2#32) ∧
      (s.errCode = .overrun → (s.memRead 0x010).rdata = some 3#32) ∧
      (s.errCode = .busyWrite → (s.memRead 0x010).rdata = some 4#32) ∧
      s.memWrite 0x000 v = s ∧ s.memWrite 0x010 v = s ∧ s.memWrite 0x014 v = s

/-- 10_state.md R31: the `CTRL` register, idle or busy, and at reset. -/
def Obligations.CtrlWriteSetsEnableOrResets : Prop :=
  State.reset.irqEn = false ∧ ∀ (s : State) (v : Word),
    (v.getLsbD 1 = true → AtReset (s.memWrite 0x004 v)) ∧
      (v.getLsbD 1 = false → s.memWrite 0x004 v = { s with irqEn := v.getLsbD 0 }) ∧
      (s.irqEn = true → (s.memRead 0x004).rdata = some 1#32) ∧ (s.irqEn = false → (s.memRead 0x004).rdata = some 0#32)

/-- 10_state.md R32: the bits of `STATUS` as read, and what a write clears. -/
def Obligations.StatusReadsItsBitsAndWritesClear : Prop :=
  ∀ (s : State) (v : Word),
    (∃ w, (s.memRead 0x008).rdata = some w ∧ w.getLsbD 0 = s.busy ∧ w.getLsbD 1 = s.done ∧ w.getLsbD 2 = s.err ∧
      ∀ i, 3 ≤ i → w.getLsbD i = false) ∧
    (s.memWrite 0x008 v).done = (s.done && !v.getLsbD 1) ∧
    (s.memWrite 0x008 v).err = (s.err && !v.getLsbD 2) ∧
    (v.getLsbD 2 = true → (s.memWrite 0x008 v).errCode = .none ∧ (s.memWrite 0x008 v).errInfo = 0#32) ∧
    (v.getLsbD 2 = false → (s.memWrite 0x008 v).errCode = s.errCode ∧ (s.memWrite 0x008 v).errInfo = s.errInfo) ∧
    SameOperands s (s.memWrite 0x008 v) ∧
    SameControl { s with done := s.done && !v.getLsbD 1 } (s.memWrite 0x008 v)

/-- 10_state.md R36: `PRED` is zero at reset, and reads and writes the eight predicates while idle; a write while busy is a
`BUSYWRITE`, and a read while busy answers some value and changes nothing of the engine. -/
def Obligations.PredReadsAndWritesThePredicates : Prop :=
  (∀ i, State.reset.getE i = false) ∧ ∀ (s : State) (v : Word),
    (s.busy = false → ∃ w, (s.memRead 0x018).rdata = some w ∧ (∀ i : EReg, w.getLsbD i.val = s.getE i) ∧
      ∀ i, 8 ≤ i → w.getLsbD i = false) ∧
    (s.busy = false → (∀ i : EReg, (s.memWrite 0x018 v).getE i = v.getLsbD i.val) ∧ (s.memWrite 0x018 v).f = s.f ∧
      (s.memWrite 0x018 v).q = s.q ∧ (s.memWrite 0x018 v).ub = s.ub ∧ SameLatch s (s.memWrite 0x018 v) ∧
      SameControl s (s.memWrite 0x018 v)) ∧
    (s.busy = true → ErrorTaken s (s.memWrite 0x018 v) .busyWrite 0x018#32) ∧
    (s.busy = true → (∃ w, (s.memRead 0x018).rdata = some w) ∧ SameEngine s (s.memRead 0x018))

/-! ### Issue, errors, interrupt -/

/-- 10_state.md R38 and R33: the four outcomes of a `CMD` write in their order, with `LASTCMD` as read at `CMD`. -/
def Obligations.IssueIsDecidedInOrder : Prop :=
  ∀ (s : State) (w : Word),
    (s.memRead 0x00C).rdata = some s.lastCmd ∧
    (s.busy = true → ErrorTaken s (s.memWrite 0x00C w) .overrun w) ∧
    (s.busy = false → s.err = true → s.memWrite 0x00C w = s) ∧
    (s.busy = false → s.err = false → legal w = false →
      s.memWrite 0x00C w = { s with err := true, errCode := .illegal, errInfo := w, done := true }) ∧
    (s.busy = false → s.err = false → legal w = true →
      s.memWrite 0x00C w =
        { s with lastCmd := w, pending := w, cnt := Config.lat (w.extractLsb' 26 6), busy := true })

/-- 60_exceptions.md R200: the latch keeps the first error; a `STATUS` write with bit 2 set clears it, and so does reset; while
it is set every `CMD` write is dropped, busy or not. Nothing else clears or changes it once set: no command, no engine clock
cycle (idle, counting or completing), no read, and no write but that one and the soft reset. -/
def Obligations.LatchKeepsTheFirstError : Prop :=
  ∀ (s : State) (code : ErrCode) (info v : Word),
    ErrorTaken s (s.latch code info) code info ∧
    (v.getLsbD 2 = true → (s.memWrite 0x008 v).err = false ∧ (s.memWrite 0x008 v).errCode = .none ∧
      (s.memWrite 0x008 v).errInfo = 0#32) ∧
    s.resetEngine.err = false ∧ s.resetEngine.errCode = .none ∧ s.resetEngine.errInfo = 0#32 ∧
    (∀ (i : Instr) (t : State), s.err = true → exec i s = .next t → SameLatch s t) ∧
    (∀ t : State, s.err = true → engineCycle s = .next t → SameLatch s t) ∧
    (∀ off : Nat, SameLatch s (s.memRead off)) ∧
    (∀ off : Nat, s.err = true → off % 4 = 0 → (off = 0x008 → v.getLsbD 2 = false) → (off = 0x004 → v.getLsbD 1 = false) →
      SameLatch s (s.memWrite off v)) ∧
    (s.err = true → s.memWrite 0x00C v = s)

/-- 10_state.md R40: the interrupt output, zero at reset, and held until the host clears its causes: a step that takes it
down performs a host write of `STATUS` or `CTRL`, or a hardware reset. The events are the model's schedule (log 5). -/
def Obligations.InterruptIsHeldUntilTheHostClearsIt : Prop :=
  (∀ s : State, s.irq = true ↔ s.irqEn = true ∧ (s.done = true ∨ s.err = true)) ∧ State.reset.irq = false ∧
    ∀ s t : State, s.irq = true → step s = .next t → t.irq = false →
      ∃ es, s.schedule = .hardReset :: es ∨
        ∃ v, s.schedule = .access (.write (Config.base + 0x008) 4 v) :: es ∨
          s.schedule = .access (.write (Config.base + 0x004) 4 v) :: es

/-! ### The window -/

/-- 20_memory.md R51 and R52: while idle, word `k` of `F[i]` is read and written at its offset, unreduced, and a write leaves
the other seven words and everything else unchanged. -/
def Obligations.FieldRegistersReadAndWriteByWords : Prop :=
  ∀ (s : State) (i : FReg) (k : Fin 8) (v : Word), s.busy = false →
    (s.memRead (0x100 + 0x20 * i.val + 4 * k.val)).rdata = some ((s.getF i).extractLsb' (32 * k.val) 32) ∧
    ∃ t, s.memWrite (0x100 + 0x20 * i.val + 4 * k.val) v = t ∧ (t.getF i).extractLsb' (32 * k.val) 32 = v ∧
      (∀ j : Fin 8, j ≠ k → (t.getF i).extractLsb' (32 * j.val) 32 = (s.getF i).extractLsb' (32 * j.val) 32) ∧
      OnlyF s t i

/-- 20_memory.md R54: while idle, word `m` of `UB` is read and written with its first byte in bits 31:24, and a write leaves
every other byte and everything else unchanged. -/
def Obligations.UniformBytesReadAndWriteByWords : Prop :=
  ∀ (s : State) (m : Fin 24) (v : Word), s.busy = false →
    (s.memRead (0x500 + 4 * m.val)).rdata =
      some (s.ub[4 * m.val] ++ s.ub[4 * m.val + 1] ++ s.ub[4 * m.val + 2] ++ s.ub[4 * m.val + 3]) ∧
    ∃ t, s.memWrite (0x500 + 4 * m.val) v = t ∧
      t.ub[4 * m.val] ++ t.ub[4 * m.val + 1] ++ t.ub[4 * m.val + 2] ++ t.ub[4 * m.val + 3] = v ∧
      (∀ j : Fin 96, j.val / 4 ≠ m.val → t.ub[j.val] = s.ub[j.val]) ∧
      t.f = s.f ∧ t.e = s.e ∧ t.q = s.q ∧ SameLatch s t ∧ SameControl s t

/-- 20_memory.md R53: every write to the `Q` range is ignored, busy or not; while idle the coordinates and the flag are read
at their offsets, and the reserved offsets of the range read as 0. -/
def Obligations.PointRegistersAreReadOnly : Prop :=
  ∀ (s : State) (n : QReg) (k : Fin 8) (off : Nat) (v : Word),
    (0x300 ≤ off → off < 0x500 → s.memWrite off v = s) ∧
    (s.busy = false →
      (s.memRead (0x300 + 0x80 * n.val + 4 * k.val)).rdata = some ((s.getQ n).x.extractLsb' (32 * k.val) 32) ∧
      (s.memRead (0x300 + 0x80 * n.val + 0x20 + 4 * k.val)).rdata = some ((s.getQ n).y.extractLsb' (32 * k.val) 32) ∧
      (s.memRead (0x300 + 0x80 * n.val + 0x40)).rdata = some (if (s.getQ n).inf then 1#32 else 0#32) ∧
      ∀ r, 0x44 ≤ r → r < 0x80 → (s.memRead (0x300 + 0x80 * n.val + r)).rdata = some 0#32)

/-- 20_memory.md R50: the reserved offsets outside the `Q` range read as 0 and ignore writes, busy or not. -/
def Obligations.ReservedOffsetsReadZeroAndIgnoreWrites : Prop :=
  ∀ (s : State) (off : Nat) (v : Word),
    (0x01C ≤ off ∧ off < 0x100) ∨ (0x560 ≤ off ∧ off < 0x1000) →
      (s.memRead off).rdata = some 0#32 ∧ s.memWrite off v = s

/-- 20_memory.md R55, with the window's place of R50 and R13: an access of the window is refused iff it is not of 4 bytes at a
multiple of 4, and otherwise takes effect. The refusal is the treatment R55 names (log 8). -/
def Obligations.OnlyAlignedWordAccessesAreAccepted : Prop :=
  4096 ∣ Config.base ∧
    ∀ (s : State) (off bytes : Nat) (v : Word), off < 4096 →
      (bytes ≠ 4 ∨ off % 4 ≠ 0 →
        hostAccess (.read (Config.base + off) bytes) s = .refused (.busError (Config.base + off) bytes) ∧
        hostAccess (.write (Config.base + off) bytes v) s = .refused (.busError (Config.base + off) bytes)) ∧
      (bytes = 4 → off % 4 = 0 →
        hostAccess (.read (Config.base + off) bytes) s = .next (s.memRead off) ∧
        hostAccess (.write (Config.base + off) bytes v) s = .next (s.memWrite off v))

/-- 20_memory.md R56, with 10_state.md R31, R32 and 60_exceptions.md R204, R205: writes while busy. -/
def Obligations.WritesWhileBusy : Prop :=
  ∀ (s : State) (off : Nat) (v : Word), s.busy = true → off % 4 = 0 →
    ((0x100 ≤ off ∧ off < 0x300) ∨ (0x500 ≤ off ∧ off < 0x560) ∨ off = 0x018 →
      ErrorTaken s (s.memWrite off v) .busyWrite (BitVec.ofNat 32 off)) ∧
    (off = 0x00C → ErrorTaken s (s.memWrite off v) .overrun v) ∧
    (off = 0x004 → v.getLsbD 1 = true → AtReset (s.memWrite off v)) ∧
    (off = 0x004 → v.getLsbD 1 = false → s.memWrite off v = { s with irqEn := v.getLsbD 0 }) ∧
    (off = 0x008 → (s.memWrite off v).done = (s.done && !v.getLsbD 1) ∧
      (s.memWrite off v).err = (s.err && !v.getLsbD 2) ∧
      (v.getLsbD 2 = true → (s.memWrite off v).errCode = .none ∧ (s.memWrite off v).errInfo = 0#32) ∧
      (v.getLsbD 2 = false → (s.memWrite off v).errCode = s.errCode ∧ (s.memWrite off v).errInfo = s.errInfo) ∧
      SameOperands s (s.memWrite off v) ∧ SameControl { s with done := s.done && !v.getLsbD 1 } (s.memWrite off v)) ∧
    (off = 0x000 ∨ off = 0x010 ∨ off = 0x014 ∨ (0x01C ≤ off ∧ off < 0x100) ∨ (0x300 ≤ off ∧ off < 0x500) ∨
        (0x560 ≤ off ∧ off < 0x1000) →
      s.memWrite off v = s)

/-- 20_memory.md R57: a read of operand state while busy answers the next free value, whatever it is (log 4); reads of the
control registers and of the reserved offsets answer as while idle, `STATUS` (10_state.md R32) with `BUSY` set. That the
reserved offsets inside the `Q` range read 0 while busy is the model's reading of R57 (log 15). -/
def Obligations.ReadsWhileBusy : Prop :=
  ∀ (s : State) (off : Nat), s.busy = true → off % 4 = 0 →
    ((0x100 ≤ off ∧ off < 0x300) ∨ (0x500 ≤ off ∧ off < 0x560) ∨ off = 0x018 ∨
        (0x300 ≤ off ∧ off < 0x500 ∧ (off - 0x300) % 0x80 ≤ 0x40) →
      (s.memRead off).rdata = some (Config.freeRead s.draws) ∧ (s.memRead off).draws = s.draws + 1) ∧
    (off < 0x018 ∧ off ≠ 0x008 ∨ (0x01C ≤ off ∧ off < 0x100) ∨ (0x560 ≤ off ∧ off < 0x1000) →
      (s.memRead off).rdata = (State.memRead { s with busy := false } off).rdata ∧ (s.memRead off).draws = s.draws) ∧
    (off = 0x008 → (∃ w, (s.memRead off).rdata = some w ∧ w.getLsbD 0 = true ∧ w.getLsbD 1 = s.done ∧
      w.getLsbD 2 = s.err ∧ ∀ i, 3 ≤ i → w.getLsbD i = false) ∧ (s.memRead off).draws = s.draws) ∧
    (0x300 ≤ off ∧ off < 0x500 ∧ 0x40 < (off - 0x300) % 0x80 →
      (s.memRead off).rdata = some 0#32 ∧ (s.memRead off).draws = s.draws)

/-- 20_memory.md R58 and R59: a read changes nothing of the engine, and while idle with no write between them two reads of one
offset answer the same: after any number of steps, each an engine clock cycle or a read of any offset, the engine is as it
was. With nothing scheduled a step is an engine clock cycle (log 5, log 6). -/
def Obligations.ReadsHaveNoSideEffect : Prop :=
  ∀ (s : State) (off : Nat),
    SameEngine s (s.memRead off) ∧ (s.memRead off).schedule = s.schedule ∧
      (s.busy = false → ((s.memRead off).memRead off).rdata = (s.memRead off).rdata ∧
        (s.memRead off).draws = s.draws) ∧
      ∀ (n : Nat) (t : State), s.busy = false →
        (∀ e ∈ s.schedule.take n, e = .cycle ∨ ∃ addr bytes, e = .access (.read addr bytes)) →
        core.run n (s.memRead off) = .next t →
        SameEngine s t ∧ t.schedule = s.schedule.drop n ∧ t.draws = s.draws ∧
          (t.memRead off).rdata = (s.memRead off).rdata

/-- 10_state.md R39 and 60_exceptions.md R204, R205: no window access but a soft reset changes what the command in flight
does: it completes with the same results, and retires. -/
def Obligations.AccessesWhileBusyLeaveTheCommandInFlight : Prop :=
  ∀ (s : State) (off : Nat) (v : Word) (t : State), s.busy = true → complete s = .next t →
    (∃ u, complete (s.memRead off) = .next u ∧ SameOperands t u ∧ u.busy = false ∧ u.done = true) ∧
    (slotAt off ≠ .ctrl ∨ v.getLsbD 1 = false →
      ∃ u, complete (s.memWrite off v) = .next u ∧ SameOperands t u ∧ u.busy = false ∧ u.done = true)

/-! ### The step -/

/-- What an engine clock cycle does (10_state.md R39). Idle, the engine writes nothing (20_memory.md R59); counting, `cnt`
decreases by 1 and nothing else changes; with a command in flight that is due, step runs the decoded command: it is `Execute`
of the command with `BUSY` cleared and `DONE` set. Turns are the model's schedule (log 5, log 6), and the cycle of the
completion is log 21. -/
def Obligations.StepRunsTheDecodedCommand : Prop :=
  ∀ s s' : State, (s.schedule = [] ∧ s' = s) ∨ (∃ es, s.schedule = .cycle :: es ∧ s' = { s with schedule := es }) →
    (s.busy = false → step s = .next s') ∧
    (s.busy = true → 0 < s.cnt → step s = .next { s' with cnt := s.cnt - 1 }) ∧
    ∀ i : Instr, s.busy = true → s.cnt = 0 → decode s.pending = .ok i →
      ∃ t, exec i s' = .next t ∧ step s = .next { t with busy := false, done := true }

/-- A step performs what stands at the head of the schedule: a host access, at its offset in the window (20_memory.md R61), or
a hardware reset (70_reset_and_hazards.md R230). The schedule is the model's (log 5). -/
def Obligations.StepPerformsTheScheduledAccess : Prop :=
  ∀ (s : State) (off : Nat) (v : Word) (es : List Event), off < 4096 → off % 4 = 0 →
    (s.schedule = .access (.read (Config.base + off) 4) :: es →
      step s = .next (State.memRead { s with schedule := es } off)) ∧
    (s.schedule = .access (.write (Config.base + off) 4 v) :: es →
      step s = .next (State.memWrite { s with schedule := es } off v)) ∧
    (s.schedule = .hardReset :: es → ∃ t, step s = .next t ∧ AtReset t ∧ t.schedule = es)

/-! ### Field arithmetic -/

/-- 41_field_arith.md R100. -/
def Obligations.FaddWritesTheSumModP : Prop :=
  ∀ (s : State) (d a b : FReg),
    decode (pack 0x01#6 (ofF d) (ofF a) (ofF b) 0#4 0#4) = .ok (.fadd d a b) ∧
    ∃ t, exec (.fadd d a b) s = .next t ∧ (t.getF d).toNat = (s.fv a + s.fv b) % Config.curve.p ∧ OnlyF s t d

/-- 41_field_arith.md R101: the least non-negative residue of the integer difference. -/
def Obligations.FsubWritesTheDifferenceModP : Prop :=
  ∀ (s : State) (d a b : FReg),
    decode (pack 0x02#6 (ofF d) (ofF a) (ofF b) 0#4 0#4) = .ok (.fsub d a b) ∧
    ∃ t, exec (.fsub d a b) s = .next t ∧ ((t.getF d).toNat : Int) = ((s.fv a : Int) - s.fv b) % Config.curve.p ∧
      OnlyF s t d

/-- 41_field_arith.md R102: `p − fv(a)`, and 0 for 0, never `p`. -/
def Obligations.FnegWritesTheNegationModP : Prop :=
  ∀ (s : State) (d a : FReg),
    decode (pack 0x03#6 (ofF d) (ofF a) 0#4 0#4 0#4) = .ok (.fneg d a) ∧
    ∃ t, exec (.fneg d a) s = .next t ∧ ((t.getF d).toNat : Int) = (-(s.fv a : Int)) % Config.curve.p ∧
      (s.fv a = 0 → (t.getF d).toNat = 0) ∧ (s.fv a ≠ 0 → (t.getF d).toNat = Config.curve.p - s.fv a) ∧ OnlyF s t d

/-- 41_field_arith.md R103 and R104. -/
def Obligations.FmulAndFsqrWriteTheProductModP : Prop :=
  ∀ (s : State) (d a b : FReg),
    decode (pack 0x04#6 (ofF d) (ofF a) (ofF b) 0#4 0#4) = .ok (.fmul d a b) ∧
    decode (pack 0x05#6 (ofF d) (ofF a) 0#4 0#4 0#4) = .ok (.fsqr d a) ∧
    (∃ t, exec (.fmul d a b) s = .next t ∧ (t.getF d).toNat = s.fv a * s.fv b % Config.curve.p ∧ OnlyF s t d) ∧
    (∃ t, exec (.fsqr d a) s = .next t ∧ (t.getF d).toNat = s.fv a * s.fv a % Config.curve.p ∧ OnlyF s t d) ∧
    exec (.fsqr d a) s = exec (.fmul d a a) s

/-- 41_field_arith.md R105: the unique inverse, and 0 for 0. -/
def Obligations.FinvWritesTheInverseOrZero : Prop :=
  ∀ (s : State) (d a : FReg),
    decode (pack 0x06#6 (ofF d) (ofF a) 0#4 0#4 0#4) = .ok (.finv d a) ∧
    ∃ t, exec (.finv d a) s = .next t ∧ (t.getF d).toNat = fermatInv (s.fv a) ∧
      (s.fv a = 0 → (t.getF d).toNat = 0) ∧
      (s.fv a ≠ 0 → 1 ≤ (t.getF d).toNat ∧ (t.getF d).toNat < Config.curve.p ∧
        (t.getF d).toNat * s.fv a % Config.curve.p = 1 ∧
        ∀ r, 1 ≤ r → r < Config.curve.p → r * s.fv a % Config.curve.p = 1 → r = (t.getF d).toNat) ∧
      OnlyF s t d

/-- 41_field_arith.md R106: division through the inverse; a zero divisor gives 0 for every dividend, and a value divided by
itself gives 1 unless it is 0. -/
def Obligations.FdivMultipliesByTheInverse : Prop :=
  ∀ (s : State) (d a b : FReg),
    decode (pack 0x07#6 (ofF d) (ofF a) (ofF b) 0#4 0#4) = .ok (.fdiv d a b) ∧
    ∃ t, exec (.fdiv d a b) s = .next t ∧ (t.getF d).toNat = s.fv a * fermatInv (s.fv b) % Config.curve.p ∧
      (s.fv b = 0 → (t.getF d).toNat = 0) ∧
      (s.fv b ≠ 0 → (t.getF d).toNat * s.fv b % Config.curve.p = s.fv a) ∧
      (s.fv b ≠ 0 → a = b → (t.getF d).toNat = 1) ∧ OnlyF s t d

/-- 41_field_arith.md R107 with 10_state.md R22: a raw value `≥ p` becomes itself less `p`. -/
def Obligations.FmovWritesTheReducedValue : Prop :=
  ∀ (s : State) (d a : FReg),
    decode (pack 0x0a#6 (ofF d) (ofF a) 0#4 0#4 0#4) = .ok (.fmov d a) ∧
    ∃ t, exec (.fmov d a) s = .next t ∧ (t.getF d).toNat = s.fv a ∧
      ((s.getF a).toNat < Config.curve.p → (t.getF d).toNat = (s.getF a).toNat) ∧
      (Config.curve.p ≤ (s.getF a).toNat → (t.getF d).toNat = (s.getF a).toNat - Config.curve.p) ∧ OnlyF s t d

/-- 41_field_arith.md R108: the exponent is the raw register, a power with exponent 0 is 1 (also `0^0`), and Fermat's little
theorem holds of the result. -/
def Obligations.FexpRaisesToTheRawExponent : Prop :=
  ∀ (s : State) (d a b : FReg),
    decode (pack 0x08#6 (ofF d) (ofF a) (ofF b) 0#4 0#4) = .ok (.fexp d a b) ∧
    ∃ t, exec (.fexp d a b) s = .next t ∧ (t.getF d).toNat = s.fv a ^ (s.getF b).toNat % Config.curve.p ∧
      (s.getF b = 0#256 → (t.getF d).toNat = 1) ∧
      (s.fv a = 0 → s.getF b ≠ 0#256 → (t.getF d).toNat = 0) ∧
      (s.fv a ≠ 0 → (s.getF b).toNat = Config.curve.p - 1 → (t.getF d).toNat = 1) ∧ OnlyF s t d

/-- 41_field_arith.md R109: the formula for every input; its square is the operand if that is a square and the operand's
negation if it is not. -/
def Obligations.FsqrtWritesTheRootFormula : Prop :=
  ∀ (s : State) (d a : FReg),
    decode (pack 0x09#6 (ofF d) (ofF a) 0#4 0#4 0#4) = .ok (.fsqrt d a) ∧
    ∃ t, exec (.fsqrt d a) s = .next t ∧ (t.getF d).toNat = rootFormula (s.fv a) ∧
      ((∃ r, r * r % Config.curve.p = s.fv a) → (t.getF d).toNat ^ 2 % Config.curve.p = s.fv a) ∧
      ((¬ ∃ r, r * r % Config.curve.p = s.fv a) → (t.getF d).toNat ^ 2 % Config.curve.p = Config.curve.p - s.fv a) ∧
      OnlyF s t d

/-- 41_field_arith.md R110: the ten constants by index; an index of 10 or more is illegal. Their numbers are those of
00_scope.md R10 (general knowledge, the spec says) and R8: the machine is built for P-256 (log 1). -/
def Obligations.FldkLoadsTheConstant : Prop :=
  ∀ (s : State) (d : FReg) (k : FieldConst),
    decode (pack 0x0b#6 (ofF d) 0#4 0#4 0#4 (ofConst k)) = .ok (.fldk d k) ∧
    (∀ n : BitVec 4, 10 ≤ n.toNat → legal (pack 0x0b#6 (ofF d) 0#4 0#4 0#4 n) = false) ∧
    ∃ t, exec (.fldk d k) s = .next t ∧ OnlyF s t d ∧
      (t.getF d).toNat =
        match k with
        | .zero => 0
        | .one => 1
        | .a => 0xffffffff00000001000000000000000000000000fffffffffffffffffffffffc
        | .b => 0x5ac635d8aa3a93e7b3ebbd55769886bc651d06b0cc53b0f63bce3c3e27d2604b
        | .z => 0xffffffff00000001000000000000000000000000fffffffffffffffffffffff5
        | .c1 => 0x73976747e368dbf83bf93f1c7cdd823ecc5f023b441be5a76944bebf629b756e
        | .c2 => 0xe666666580000000e666666666666666666666674ccccccccccccccccccccccc
        | .euler => 0x7fffffff800000008000000000000000000000007fffffffffffffffffffffff
        | .sqrtExp => 0x3fffffffc0000000400000000000000000000000400000000000000000000000
        | .invExp => 0xffffffff00000001000000000000000000000000fffffffffffffffffffffffd

/-- 41_field_arith.md R111: half `h` of the uniform bytes, big-endian, reduced modulo `p`. -/
def Obligations.FlduLoadsAHalfOfTheUniformBytes : Prop :=
  ∀ (s : State) (d : FReg) (h : Half),
    decode (pack 0x0c#6 (ofF d) 0#4 0#4 0#4 (ofHalf h)) = .ok (.fldu d h) ∧
    ∃ t, exec (.fldu d h) s = .next t ∧ (t.getF d).toNat = bigEndian s.ub h % Config.curve.p ∧ OnlyF s t d

/-! ### Tests, predicates, select -/

/-- 42_predicate_select.md R130 to R133: each test writes its one predicate, and nothing else changes. -/
def Obligations.FieldTestsWriteOnePredicate : Prop :=
  ∀ (s : State) (d : EReg) (a b : FReg),
    decode (pack 0x10#6 (ofE d) (ofF a) 0#4 0#4 0#4) = .ok (.fisz d a) ∧
    decode (pack 0x11#6 (ofE d) (ofF a) (ofF b) 0#4 0#4) = .ok (.feq d a b) ∧
    decode (pack 0x12#6 (ofE d) (ofF a) 0#4 0#4 0#4) = .ok (.fissq d a) ∧
    decode (pack 0x13#6 (ofE d) (ofF a) 0#4 0#4 0#4) = .ok (.fsgn0 d a) ∧
    (∃ t, exec (.fisz d a) s = .next t ∧ (t.getE d = true ↔ s.fv a = 0) ∧ OnlyE s t d) ∧
    (∃ t, exec (.feq d a b) s = .next t ∧ (t.getE d = true ↔ s.fv a = s.fv b) ∧ OnlyE s t d) ∧
    (∃ t, exec (.fissq d a) s = .next t ∧ (t.getE d = true ↔ EulerSquare (s.fv a)) ∧
      (t.getE d = true ↔ ∃ r, r * r % Config.curve.p = s.fv a) ∧ OnlyE s t d) ∧
    (∃ t, exec (.fsgn0 d a) s = .next t ∧ (t.getE d = true ↔ s.fv a % 2 = 1) ∧ OnlyE s t d)

/-- 42_predicate_select.md R134. -/
def Obligations.FcmovSelectsByThePredicate : Prop :=
  ∀ (s : State) (d a b : FReg) (e : EReg),
    decode (pack 0x14#6 (ofF d) (ofF a) (ofF b) (ofE e) 0#4) = .ok (.fcmov d a b e) ∧
    ∃ t, exec (.fcmov d a b e) s = .next t ∧ (s.getE e = true → (t.getF d).toNat = s.fv b) ∧
      (s.getE e = false → (t.getF d).toNat = s.fv a) ∧ OnlyF s t d

/-- 42_predicate_select.md R135 to R140: the predicate logic; `PSET` with an immediate of 2 or more is illegal. -/
def Obligations.PredicateLogicWritesOnePredicate : Prop :=
  ∀ (s : State) (d a b : EReg) (v : Bool),
    decode (pack 0x15#6 (ofE d) (ofE a) (ofE b) 0#4 0#4) = .ok (.pand d a b) ∧
    decode (pack 0x16#6 (ofE d) (ofE a) (ofE b) 0#4 0#4) = .ok (.por d a b) ∧
    decode (pack 0x17#6 (ofE d) (ofE a) (ofE b) 0#4 0#4) = .ok (.pxor d a b) ∧
    decode (pack 0x18#6 (ofE d) (ofE a) (ofE b) 0#4 0#4) = .ok (.pxnor d a b) ∧
    decode (pack 0x19#6 (ofE d) (ofE a) 0#4 0#4 0#4) = .ok (.pnot d a) ∧
    decode (pack 0x1a#6 (ofE d) 0#4 0#4 0#4 (ofBit v)) = .ok (.pset d v) ∧
    (∀ n : BitVec 4, 2 ≤ n.toNat → legal (pack 0x1a#6 (ofE d) 0#4 0#4 0#4 n) = false) ∧
    (∃ t, exec (.pand d a b) s = .next t ∧ (t.getE d = true ↔ s.getE a = true ∧ s.getE b = true) ∧ OnlyE s t d) ∧
    (∃ t, exec (.por d a b) s = .next t ∧ (t.getE d = true ↔ s.getE a = true ∨ s.getE b = true) ∧ OnlyE s t d) ∧
    (∃ t, exec (.pxor d a b) s = .next t ∧ (t.getE d = true ↔ s.getE a ≠ s.getE b) ∧ OnlyE s t d) ∧
    (∃ t, exec (.pxnor d a b) s = .next t ∧ (t.getE d = true ↔ s.getE a = s.getE b) ∧ OnlyE s t d) ∧
    (∃ t, exec (.pnot d a) s = .next t ∧ (t.getE d = true ↔ s.getE a = false) ∧ OnlyE s t d) ∧
    (∃ t, exec (.pset d v) s = .next t ∧ t.getE d = v ∧ OnlyE s t d)

/-! ### Curve -/

/-- 43_curve.md R160: `SWU` writes the pair that SWU steps 1 to 16 give for the input before the command; `d = b` is
illegal. -/
def Obligations.SwuFollowsTheSixteenSteps : Prop :=
  ∀ (s : State) (d a b : FReg),
    (d = b → legal (pack 0x20#6 (ofF d) (ofF a) (ofF b) 0#4 0#4) = false) ∧
    (d ≠ b → decode (pack 0x20#6 (ofF d) (ofF a) (ofF b) 0#4 0#4) = .ok (.swu d a b)) ∧
    (d ≠ b → ∃ t, exec (.swu d a b) s = .next t ∧ SwuSteps (s.fv a) (t.getF d).toNat (t.getF b).toNat ∧
      (∀ i, i ≠ d → i ≠ b → t.getF i = s.getF i) ∧ t.e = s.e ∧ t.q = s.q ∧ t.ub = s.ub ∧ SameLatch s t ∧
      SameControl s t)

/-- 43_curve.md R161: canonical coordinates of a curve point are lifted; every other pair raises `DECODE` and leaves all
operand state unchanged. -/
def Obligations.QliftLiftsOrRaisesDecode : Prop :=
  ∀ (s : State) (d : QReg) (a b : FReg),
    decode (pack 0x21#6 (ofQ d) (ofF a) (ofF b) 0#4 0#4) = .ok (.qlift d a b) ∧
    ∃ t, exec (.qlift d a b) s = .next t ∧
      ((s.getF a).toNat < Config.curve.p → (s.getF b).toNat < Config.curve.p →
        (s.getF b).toNat ^ 2 % Config.curve.p =
          ((s.getF a).toNat ^ 3 + Config.curve.A * (s.getF a).toNat + Config.curve.B) % Config.curve.p →
        t.getQ d = ⟨s.getF a, s.getF b, false⟩ ∧ OnlyQ s t d) ∧
      (Config.curve.p ≤ (s.getF a).toNat ∨ Config.curve.p ≤ (s.getF b).toNat ∨
          (s.getF b).toNat ^ 2 % Config.curve.p ≠
            ((s.getF a).toNat ^ 3 + Config.curve.A * (s.getF a).toNat + Config.curve.B) % Config.curve.p →
        ErrorTaken s t .decode s.pending)

/-- 43_curve.md R162: "`Q[d] <- (0, 0, 1)`"; R164: "`F[d] <- Q[a].x`"; R165: "`F[d] <- Q[a].y`"; R166:
"`E[d] <- Q[a].inf`". Each changes nothing else. -/
def Obligations.PointAccessCommandsCopyAndTest : Prop :=
  ∀ (s : State) (d : FReg) (e : EReg) (n a : QReg),
    decode (pack 0x22#6 (ofQ n) 0#4 0#4 0#4 0#4) = .ok (.qinf n) ∧
    decode (pack 0x23#6 (ofF d) (ofQ a) 0#4 0#4 0#4) = .ok (.qgetx d a) ∧
    decode (pack 0x24#6 (ofF d) (ofQ a) 0#4 0#4 0#4) = .ok (.qgety d a) ∧
    decode (pack 0x25#6 (ofE e) (ofQ a) 0#4 0#4 0#4) = .ok (.qisinf e a) ∧
    (∃ t, exec (.qinf n) s = .next t ∧ t.getQ n = ⟨0#256, 0#256, true⟩ ∧ OnlyQ s t n) ∧
    (∃ t, exec (.qgetx d a) s = .next t ∧ t.getF d = (s.getQ a).x ∧ OnlyF s t d) ∧
    (∃ t, exec (.qgety d a) s = .next t ∧ t.getF d = (s.getQ a).y ∧ OnlyF s t d) ∧
    (∃ t, exec (.qisinf e a) s = .next t ∧ t.getE e = (s.getQ a).inf ∧ OnlyE s t e)

/-- 43_curve.md R163, R167, R168: `QADD` and `QDBL` write the addition law's point, case by case, and `QDBL` is `QADD` of a
point with itself wherever 10_state.md R26 holds. -/
def Obligations.QaddAndQdblFollowTheAdditionLaw : Prop :=
  ∀ (s : State) (d a b : QReg),
    decode (pack 0x26#6 (ofQ d) (ofQ a) (ofQ b) 0#4 0#4) = .ok (.qadd d a b) ∧
    decode (pack 0x27#6 (ofQ d) (ofQ a) 0#4 0#4 0#4) = .ok (.qdbl d a) ∧
    (∃ t, exec (.qadd d a b) s = .next t ∧ Addition (s.getQ a) (s.getQ b) (t.getQ d) ∧ OnlyQ s t d) ∧
    (∃ t, exec (.qdbl d a) s = .next t ∧ Doubling (s.getQ a) (t.getQ d) ∧ OnlyQ s t d) ∧
    (PointsOk s → exec (.qdbl d a) s = exec (.qadd d a a) s)

/-- 43_curve.md R169: `H2C` maps both halves, checks both pairs, and adds; if a check fails it raises `DECODE` and leaves all
operand state unchanged. On this instance no check fails (TheMapAlwaysLandsOnTheCurve), so nothing meets the last clause: it is
there because the check is part of the command (92_eei_decisions.md D37). -/
def Obligations.HashToCurveMapsChecksAndAdds : Prop :=
  ∀ (s : State) (d : QReg),
    decode (pack 0x28#6 (ofQ d) 0#4 0#4 0#4 0#4) = .ok (.h2c d) ∧
    ∃ t x0 y0 x1 y1, exec (.h2c d) s = .next t ∧
      SwuSteps (bigEndian s.ub 0 % Config.curve.p) x0 y0 ∧ SwuSteps (bigEndian s.ub 1 % Config.curve.p) x1 y1 ∧
      (onCurve Config.curve x0 y0 = true → onCurve Config.curve x1 y1 = true →
        Addition ⟨BitVec.ofNat 256 x0, BitVec.ofNat 256 y0, false⟩ ⟨BitVec.ofNat 256 x1, BitVec.ofNat 256 y1, false⟩
          (t.getQ d) ∧ OnlyQ s t d) ∧
      (onCurve Config.curve x0 y0 = false ∨ onCurve Config.curve x1 y1 = false → ErrorTaken s t .decode s.pending)

/-! ### System -/

/-- 44_system.md R190: `NOP` is accepted, keeps the engine busy for its latency and changes nothing; when it completes, `DONE` is
set, `BUSY` is cleared and nothing else changes; any other word with its opcode is illegal. -/
def Obligations.NopOnlyCompletes : Prop :=
  decode 0x00000000#32 = .ok .nop ∧ (∀ w : Word, w ≠ 0#32 → w.extractLsb' 26 6 = 0x00#6 → legal w = false) ∧
    ∀ s : State, exec .nop s = .next s ∧
      (s.busy = false → s.err = false → s.memWrite 0x00C 0x00000000#32 =
        { s with lastCmd := 0x00000000#32, pending := 0x00000000#32, cnt := Config.lat 0x00#6, busy := true }) ∧
      (s.pending = 0x00000000#32 → complete s = .next { s with busy := false, done := true })

/-- 44_system.md R191: `ZERO` leaves the operand state of reset and nothing else changed; any other word with its opcode is
illegal; at issue `LASTCMD` becomes its word, and while an error is latched it is dropped. -/
def Obligations.ZeroWipesAllOperandState : Prop :=
  decode 0xFC000000#32 = .ok .zero ∧ (∀ w : Word, w ≠ 0xFC000000#32 → w.extractLsb' 26 6 = 0x3f#6 → legal w = false) ∧
    ∀ s : State, ∃ t, exec .zero s = .next t ∧ (∀ i, t.getF i = 0#256) ∧ (∀ i, t.getE i = false) ∧
      (∀ n, t.getQ n = ⟨0#256, 0#256, true⟩) ∧ (∀ j : Fin 96, t.ub[j.val] = 0#8) ∧ SameOperands State.reset t ∧
      SameLatch s t ∧ SameControl s t ∧
      (s.busy = false → s.err = false → (s.memWrite 0x00C 0xFC000000#32).lastCmd = 0xFC000000#32) ∧
      (s.busy = false → s.err = true → s.memWrite 0x00C 0xFC000000#32 = s)

/-! ### Encoding -/

/-- Decoding the encoding of any well-formed command gives it back (30_encoding.md R80 to R84). -/
def Obligations.DecodeOfEncode : Prop := ∀ i : Instr, i.wellFormed = true → decode (encode i) = .ok i

/-- Every word the decoder accepts is the encoding of the well-formed command it reads: no bit of a word is dropped
(30_encoding.md R80 to R84). -/
def Obligations.EncodeOfDecode : Prop := ∀ (w : Word) (i : Instr), decode w = .ok i → encode i = w ∧ i.wellFormed = true

/-- 30_encoding.md R83 and R84: a word is legal iff the decoder accepts it; it decodes to a row's command iff it meets that
row's mask, match and extra condition; at most one row takes it. -/
def Obligations.LegalWordsAreThoseOfTheOpcodeMap : Prop :=
  ∀ w : Word,
    (legal w = true ↔ ∃ i, decode w = .ok i) ∧
    (∀ o : Opcode, (∃ i, decode w = .ok i ∧ i.opcode = o) ↔ w &&& o.maskBits = o.matchBits ∧ o.extra w = true) ∧
    ∀ o o' : Opcode, w &&& o.maskBits = o.matchBits → w &&& o'.maskBits = o'.matchBits → o = o'

/-- 30_encoding.md R85: the reserved opcodes, the 30 of them, a field out of the range of its role, `FLDK` with an index of 10
to 15, `SWU` with `d = b` and nonzero reserved bits are illegal, and an illegal word that reaches the legality check raises
`ILLEGAL` and changes no operand state. -/
def Obligations.ReservedEncodingsAreIllegal : Prop :=
  (∀ w : Word,
    (0x0d ≤ (w.extractLsb' 26 6).toNat ∧ (w.extractLsb' 26 6).toNat ≤ 0x0f) ∨
      (0x1b ≤ (w.extractLsb' 26 6).toNat ∧ (w.extractLsb' 26 6).toNat ≤ 0x1f) ∨
      (0x29 ≤ (w.extractLsb' 26 6).toNat ∧ (w.extractLsb' 26 6).toNat ≤ 0x3e) ∨
      ((w.extractLsb' 26 6) = 0x0b#6 ∧ 10 ≤ (w.extractLsb' 6 4).toNat) ∨
      ((w.extractLsb' 26 6) = 0x20#6 ∧ w.extractLsb' 22 4 = w.extractLsb' 14 4) ∨
      (∃ o : Opcode, o.code = w.extractLsb' 26 6 ∧ o.fieldsInRole w = false) ∨ w.extractLsb' 0 6 ≠ 0#6 →
    legal w = false) ∧
  ∀ (s : State) (w : Word), legal w = false → s.busy = false → s.err = false →
    SameOperands s (s.issue w) ∧ (s.issue w).err = true ∧ (s.issue w).errCode = .illegal ∧ (s.issue w).errInfo = w ∧
      (s.issue w).done = true ∧ (s.issue w).busy = false

/-- A few words of 95_test_vectors.md section 7 and of programs P1 and P2 decode as they are listed there. -/
def Obligations.ListedWordsDecodeAsListed : Prop :=
  decode 0x10848000#32 = .ok (.fmul 2 1 2) ∧ decode 0x51118000#32 = .ok (.fcmov 4 4 6 0) ∧
    decode 0x8383C000#32 = .ok (.swu 14 0 15) ∧ decode 0x2C000240#32 = .ok (.fldk 0 .invExp) ∧
    decode 0x69C00040#32 = .ok (.pset 7 true) ∧ decode 0x98804000#32 = .ok (.qadd 2 0 1) ∧
    decode 0xA0C00000#32 = .ok (.h2c 3) ∧ decode 0xFC000000#32 = .ok .zero ∧
    decode 0x2C000280#32 = .error .fieldOutOfRole ∧ decode 0x34000000#32 = .error .reservedOpcode

/-! ### Invariants and whole-machine rules -/

/-- The invariant of the command processing state and the error latch (10_state.md R33 to R39, 60_exceptions.md R200) is kept
by every step from every state that has it. -/
def Obligations.EveryStepKeepsTheControlInvariant : Prop := ∀ s t : State, ControlOk s → step s = .next t → ControlOk t

/-- 10_state.md R26: every step keeps every `Q[i]` the identity or a canonical point of the curve. -/
def Obligations.EveryStepKeepsThePointsOnTheCurve : Prop := ∀ s t : State, PointsOk s → step s = .next t → PointsOk t

/-- Both invariants hold after reset: the points' by 10_state.md R26, the control half by the reset values of R34, R35, R37
and 70_reset_and_hazards.md R230. -/
def Obligations.InvariantsHoldAfterReset : Prop := ControlOk State.reset ∧ PointsOk State.reset

/-- From a state with the control invariant, a step stops only at a host access: a fault is an access outside the window
(log 9) and a refusal one that 20_memory.md R55 refuses (log 8). -/
def Obligations.StepStopsOnlyAtABadAccess : Prop :=
  ∀ s : State, ControlOk s →
    (∀ r, step s = .fault r → ∃ a es addr, s.schedule = .access a :: es ∧ r = .outsideWindow addr ∧
      ((∃ n, a = .read addr n) ∨ ∃ n v, a = .write addr n v) ∧ ¬ (Config.base ≤ addr ∧ addr < Config.base + 4096)) ∧
    (∀ r, step s = .refused r → ∃ a es addr n, s.schedule = .access a :: es ∧ r = .busError addr n ∧
      (a = .read addr n ∨ ∃ v, a = .write addr n v) ∧ (n ≠ 4 ∨ (addr - Config.base) % 4 ≠ 0))

/-- 60_exceptions.md R207 and R202: a command that takes an error changes nothing but the latch, the error is `DECODE` with
the command's word, and only `QLIFT` and `H2C` take one. -/
def Obligations.FailingCommandsWriteNoOperandState : Prop :=
  ∀ (i : Instr) (s t : State), exec i s = .next t → ¬ SameLatch s t →
    SameOperands s t ∧ SameControl s t ∧ t.err = true ∧ t.errCode = .decode ∧ t.errInfo = s.pending ∧
      ((∃ d a b, i = .qlift d a b) ∨ ∃ d, i = .h2c d)

/-- 10_state.md R23: every value a command writes to `F` is below `p`, in a state with the invariant of R26: each destination
register holds such a value afterwards, also one whose content is what it was before, and every other register is unchanged.
The destinations are those of the commands' own rules (`fieldDests`). -/
def Obligations.CommandsWriteReducedFieldValues : Prop :=
  ∀ (i : Instr) (s t : State) (j : FReg), PointsOk s → exec i s = .next t →
    (j ∈ fieldDests i → (t.getF j).toNat < Config.curve.p) ∧ (j ∉ fieldDests i → t.getF j = s.getF j)

/-- 10_state.md R21, R24, R25, R27 and 42_predicate_select.md R141: which commands may change `F`, `E`, `Q` and `UB`; no
command changes a control register but the error latch. -/
def Obligations.OnlyTheNamedCommandsWriteEachFile : Prop :=
  ∀ (i : Instr) (s t : State), exec i s = .next t →
    (t.f ≠ s.f → i.opcode ∈ [.fadd, .fsub, .fneg, .fmul, .fsqr, .finv, .fdiv, .fexp, .fsqrt, .fmov, .fldk, .fldu, .fcmov,
      .swu, .qgetx, .qgety, .zero]) ∧
    (t.e ≠ s.e → i.opcode ∈ [.fisz, .feq, .fissq, .fsgn0, .pand, .por, .pxor, .pxnor, .pnot, .pset, .qisinf, .zero]) ∧
    (t.q ≠ s.q → i.opcode ∈ [.qlift, .qinf, .qadd, .qdbl, .h2c, .zero]) ∧
    (t.ub ≠ s.ub → i = .zero) ∧ SameControl s t

/-- 70_reset_and_hazards.md R238: two states that differ only in operand state, in the latched code and information and in the
values read step alike in `BUSY`, `DONE`, `cnt`, `irq` and what is in flight; `ERR` too, but where a `QLIFT` or `H2C`
completes. Steps are those of the model's schedule (log 5). -/
def Obligations.TimingDoesNotDependOnOperands : Prop :=
  ∀ s s' t : State, s'.busy = s.busy → s'.done = s.done → s'.err = s.err → s'.irqEn = s.irqEn → s'.cnt = s.cnt →
    s'.pending = s.pending → s'.lastCmd = s.lastCmd → s'.schedule = s.schedule → step s = .next t →
    ∃ t', step s' = .next t' ∧ t'.busy = t.busy ∧ t'.done = t.done ∧ t'.cnt = t.cnt ∧ t'.irqEn = t.irqEn ∧
      t'.irq = t.irq ∧ t'.pending = t.pending ∧ t'.lastCmd = t.lastCmd ∧ t'.schedule = t.schedule ∧
      (t'.err = t.err ∨
        ((s.schedule = [] ∨ ∃ es, s.schedule = .cycle :: es) ∧ s.busy = true ∧ s.cnt = 0 ∧
          (s.pending.extractLsb' 26 6 = 0x21#6 ∨ s.pending.extractLsb' 26 6 = 0x28#6)))

/-- 70_reset_and_hazards.md R237: an accepted command keeps the engine busy for `LAT(op)` engine clock cycles, in which `cnt`
counts down and nothing else changes, and the next step completes it on the state at its issue. The host is quiet meanwhile:
the schedule holds cycles or has run out (log 5, log 6, log 21). -/
def Obligations.AcceptedCommandsTakeTheirLatency : Prop :=
  ∀ (s : State) (w : Word), s.busy = false → s.err = false → legal w = true →
    (∀ e ∈ s.schedule.take (Config.lat (w.extractLsb' 26 6) + 1), e = .cycle) →
    (∀ n, n ≤ Config.lat (w.extractLsb' 26 6) →
      core.run n (s.memWrite 0x00C w) =
        .next ({ s with lastCmd := w, pending := w, cnt := Config.lat (w.extractLsb' 26 6) - n, busy := true,
                        schedule := s.schedule.drop n } : State)) ∧
    ∃ (i : Instr) (u : State), decode w = .ok i ∧
      exec i { s with lastCmd := w, pending := w, cnt := 0, busy := true,
                      schedule := s.schedule.drop (Config.lat (w.extractLsb' 26 6) + 1) } = .next u ∧
      core.run (Config.lat (w.extractLsb' 26 6) + 1) (s.memWrite 0x00C w) =
        .next ({ u with busy := false, done := true } : State)

/-- 60_exceptions.md R209: both orders of a `CMD` write and a completion are runs of the model, as the schedule says (log 5):
an overrun that leaves the word out, or an accepted issue. -/
def Obligations.BothOrdersOfTheRaceAreAdmitted : Prop :=
  ∀ (s : State) (w : Word) (i : Instr), s.busy = true → s.cnt = 0 → s.err = false → decode s.pending = .ok i →
    legal w = true → (∀ u, exec i s = .next u → u.err = false) →
    (s.schedule = [.access (.write (Config.base + 0x00C) 4 w), .cycle] →
      ∃ t : State, core.run 2 s = .next t ∧ t.busy = false ∧ t.err = true ∧ t.errCode = .overrun ∧ t.errInfo = w ∧
        t.lastCmd = s.lastCmd) ∧
    (s.schedule = [.cycle, .access (.write (Config.base + 0x00C) 4 w)] →
      ∃ t : State, core.run 2 s = .next t ∧ t.busy = true ∧ t.err = false ∧ t.pending = w ∧ t.lastCmd = w)

/-! ### The instance and its mathematics -/

/-- 00_scope.md R8, R9, R10: the instance's configuration is legal, and `c1`, `c2` satisfy their defining equations. -/
def Obligations.TheInstanceIsALegalConfiguration : Prop :=
  Config.curve.Legal ∧ Config.curve.L = 48 ∧ (c1 Config.curve * Config.curve.A + Config.curve.B) % Config.curve.p = 0 ∧
    (c2 Config.curve * Config.curve.Z + 1) % Config.curve.p = 0

/-- 43_curve.md R169: `SWU` always gives canonical coordinates of a curve point, so `H2C` never raises `DECODE` on this
instance (92_eei_decisions.md D37). -/
def Obligations.TheMapAlwaysLandsOnTheCurve : Prop :=
  (∀ u x y, u < Config.curve.p → SwuSteps u x y →
    x < Config.curve.p ∧ y < Config.curve.p ∧
      y ^ 2 % Config.curve.p = (x ^ 3 + Config.curve.A * x + Config.curve.B) % Config.curve.p) ∧
    ∀ (s : State) (d : QReg), ∃ t, exec (.h2c d) s = .next t ∧ SameLatch s t ∧ PointOk (t.getQ d)

/-- 43_curve.md R170: `H2C` gives the point that the sequence of primitive commands gives, and leaves everything else
unchanged. -/
def Obligations.HashToCurveEqualsTheCommandSequence : Prop :=
  ∀ (s : State) (d qa qb : QReg) (u0 u1 x0 y0 x1 y1 : FReg),
    u0 ≠ u1 → x0 ≠ y0 → x1 ≠ y1 → u1 ≠ x0 → u1 ≠ y0 → x1 ≠ x0 → x1 ≠ y0 → y1 ≠ x0 → y1 ≠ y0 → qa ≠ qb →
    ∃ t u, exec (.h2c d) s = .next t ∧ OnlyQ s t d ∧
      execAll [.fldu u0 0, .fldu u1 1, .swu x0 u0 y0, .swu x1 u1 y1, .qlift qa x0 y0, .qlift qb x1 y1, .qadd d qa qb] s =
        .next u ∧
      u.getQ d = t.getQ d ∧ SameLatch s u

/-- 30_encoding.md R88: the pseudo-instructions' expansions do what the table says. The table asks distinct registers of
`FCUBE`; the same is asked of `FISSQ2` here, whose expansion overwrites its exponent's register otherwise. -/
def Obligations.PseudoInstructionsExpandAsListed : Prop :=
  ∀ (s : State) (d a b : FReg) (e f : EReg),
    (∃ t, exec (.fldk d .zero) s = .next t ∧ (t.getF d).toNat = 0) ∧
    (∃ t, exec (.fldk d .one) s = .next t ∧ (t.getF d).toNat = 1) ∧
    (∃ t, exec (.fadd d a a) s = .next t ∧ (t.getF d).toNat = 2 * s.fv a % Config.curve.p) ∧
    (d ≠ a → ∃ t, execAll [.fsqr d a, .fmul d d a] s = .next t ∧ (t.getF d).toNat = s.fv a ^ 3 % Config.curve.p ∧
      OnlyF s t d) ∧
    (∃ t, exec (.por e f f) s = .next t ∧ t.getE e = s.getE f) ∧
    (∃ t, exec (.pset e false) s = .next t ∧ t.getE e = false) ∧
    (∃ t, exec (.pset e true) s = .next t ∧ t.getE e = true) ∧
    (∃ t, exec (.fcmov d a b f) s = .next t ∧ (t.getF d).toNat = if s.getE f then s.fv b else s.fv a) ∧
    (d ≠ a → ∃ t, execAll [.fldk d .euler, .fexp d a d] s = .next t ∧
      (t.getF d).toNat = s.fv a ^ ((Config.curve.p - 1) / 2) % Config.curve.p ∧ OnlyF s t d)
end

