-- ==== Sys2Proof/Laws/Encoding.lean ====
section
/-! SUPPORT. The fields of a packed word are the fields it was packed from, and back (30_encoding.md R80); the opcode map has
one row per number (R83). -/

namespace Sys2Proof

theorem opF_pack (op : BitVec 6) (d a b e k : BitVec 4) : opF (pack op d a b e k) = op := by
  apply BitVec.eq_of_getLsbD_eq
  intro i hi
  simp (disch := omega) only [opF, pack, BitVec.getLsbD_extractLsb', BitVec.getLsbD_append]
  interval_cases i <;> simp

theorem dF_pack (op : BitVec 6) (d a b e k : BitVec 4) : dF (pack op d a b e k) = d := by
  apply BitVec.eq_of_getLsbD_eq
  intro i hi
  simp (disch := omega) only [dF, pack, BitVec.getLsbD_extractLsb', BitVec.getLsbD_append]
  interval_cases i <;> simp

theorem aF_pack (op : BitVec 6) (d a b e k : BitVec 4) : aF (pack op d a b e k) = a := by
  apply BitVec.eq_of_getLsbD_eq
  intro i hi
  simp (disch := omega) only [aF, pack, BitVec.getLsbD_extractLsb', BitVec.getLsbD_append]
  interval_cases i <;> simp

theorem bF_pack (op : BitVec 6) (d a b e k : BitVec 4) : bF (pack op d a b e k) = b := by
  apply BitVec.eq_of_getLsbD_eq
  intro i hi
  simp (disch := omega) only [bF, pack, BitVec.getLsbD_extractLsb', BitVec.getLsbD_append]
  interval_cases i <;> simp

theorem eF_pack (op : BitVec 6) (d a b e k : BitVec 4) : eF (pack op d a b e k) = e := by
  apply BitVec.eq_of_getLsbD_eq
  intro i hi
  simp (disch := omega) only [eF, pack, BitVec.getLsbD_extractLsb', BitVec.getLsbD_append]
  interval_cases i <;> simp

theorem kF_pack (op : BitVec 6) (d a b e k : BitVec 4) : kF (pack op d a b e k) = k := by
  apply BitVec.eq_of_getLsbD_eq
  intro i hi
  simp (disch := omega) only [kF, pack, BitVec.getLsbD_extractLsb', BitVec.getLsbD_append]
  interval_cases i <;> simp

theorem rsvF_pack (op : BitVec 6) (d a b e k : BitVec 4) : rsvF (pack op d a b e k) = 0#6 := by
  apply BitVec.eq_of_getLsbD_eq
  intro i hi
  simp (disch := omega) only [rsvF, pack, BitVec.getLsbD_extractLsb', BitVec.getLsbD_append]
  interval_cases i <;> simp

/-- A word whose reserved bits are 0 is the packing of its fields. -/
theorem pack_fields {w : Word} (h : rsvF w = 0#6) : pack (opF w) (dF w) (aF w) (bF w) (eF w) (kF w) = w := by
  have hb : ∀ i, i < 6 → w.getLsbD i = false := by
    intro i hi
    have := congrArg (fun v => v.getLsbD i) h
    simpa [rsvF, hi] using this
  apply BitVec.eq_of_getLsbD_eq
  intro i hi
  simp only [pack, opF, dF, aF, bF, eF, kF, BitVec.getLsbD_append, BitVec.getLsbD_extractLsb']
  interval_cases i <;> simp
  all_goals rw [← BitVec.getLsbD_eq_getElem]; exact hb _ (by omega)

/-- The opcode map is a function of the number and back (30_encoding.md R83). -/
theorem ofCode?_eq_some_iff (c : BitVec 6) (o : Opcode) : Opcode.ofCode? c = some o ↔ o.code = c := by
  constructor
  · intro h
    have hc := List.find?_some h
    simpa using hc
  · rintro rfl
    cases o <;> decide

end Sys2Proof
end

