-- ==== Sys2Proof/Laws/Field.lean ====
section
/-! SUPPORT. What the field primitives compute, said once in plain arithmetic (00_scope.md R15, R17). -/

namespace Sys2Proof.Machine

open Sys2Proof.Config (Curve)

/-! ### Exponentiation -/

theorem powModBits_eq (m : Nat) : ∀ k x n, n < 2 ^ k → powModBits m k x n = x ^ n % m
  | 0, x, n, h => by
    have : n = 0 := by simpa using h
    simp [powModBits, this]
  | k + 1, x, n, h => by
    have ih := powModBits_eq m k (x * x % m) (n / 2) (by omega)
    have hsq : (x * x % m) ^ (n / 2) % m = x ^ (2 * (n / 2)) % m := by
      rw [← Nat.pow_mod, ← pow_two, ← pow_mul]
    rw [powModBits, ih, hsq]
    split
    · next hodd =>
      rw [Nat.mul_mod, Nat.mod_mod, ← Nat.mul_mod, ← pow_succ']
      congr 2; omega
    · next heven =>
      congr 2; omega

/-- `powMod` is exponentiation modulo `m` for every 256-bit exponent. -/
theorem powMod_eq {n : Nat} (m x : Nat) (h : n < 2 ^ 256) : powMod m x n = x ^ n % m :=
  powModBits_eq m 256 x n h

/-! ### Residues -/

theorem resid_lt {p : Nat} (hp : 0 < p) (z : Int) : resid p z < p := by
  have h1 := Int.emod_nonneg z (show (p : Int) ≠ 0 by omega)
  have h2 := Int.emod_lt_of_pos z (show (0 : Int) < p by omega)
  unfold resid; omega

theorem resid_cast {p : Nat} (hp : 0 < p) (z : Int) : (resid p z : Int) = z % p := by
  have h1 := Int.emod_nonneg z (show (p : Int) ≠ 0 by omega)
  unfold resid; omega

/-- In `GF(p)` a residue is the integer it is the residue of. -/
theorem resid_zmod {p : Nat} (hp : 0 < p) (z : Int) : ((resid p z : Nat) : ZMod p) = z := by
  rw [← Int.cast_natCast (R := ZMod p), resid_cast hp, ZMod.intCast_mod]

/-! ### The modulus of the instance -/

theorem curve_p_pos : 0 < Config.curve.p := by decide +kernel

theorem curve_p_lt : Config.curve.p < 2 ^ 256 := by decide +kernel

/-- A value below `p` survives the 256-bit register (00_scope.md R11). -/
theorem toNat_ofNat_of_lt {n : Nat} (h : n < Config.curve.p) : (BitVec.ofNat 256 n).toNat = n := by
  rw [BitVec.toNat_ofNat]; exact Nat.mod_eq_of_lt (h.trans curve_p_lt)

theorem mod_curve_p_lt (n : Nat) : n % Config.curve.p < Config.curve.p := Nat.mod_lt _ curve_p_pos

theorem fv_lt (s : State) (i : FReg) : s.fv i < Config.curve.p := mod_curve_p_lt _

/-! ### The primitives of 00_scope.md R17 -/

theorem inv0_eq (x : Nat) : inv0 Config.curve x = x ^ (Config.curve.p - 2) % Config.curve.p :=
  powMod_eq _ _ (by decide +kernel)

theorem isSquare_eq_true_iff (x : Nat) :
    isSquare Config.curve x = true ↔
      x ^ ((Config.curve.p - 1) / 2) % Config.curve.p = 0 ∨ x ^ ((Config.curve.p - 1) / 2) % Config.curve.p = 1 := by
  rw [isSquare, powMod_eq _ _ (by decide +kernel)]
  simp

theorem sqrtP_eq (x : Nat) : sqrtP Config.curve x = x ^ ((Config.curve.p + 1) / 4) % Config.curve.p :=
  powMod_eq _ _ (by decide +kernel)

theorem curveRhs_eq (c : Curve) (x : Nat) : curveRhs c x = (x ^ 3 + c.A * x + c.B) % c.p := rfl

/-- `on_curve` is the curve equation modulo `p`. -/
theorem onCurve_iff (c : Curve) (hp : 0 < c.p) (x y : Nat) :
    onCurve c x y = true ↔ y ^ 2 % c.p = (x ^ 3 + c.A * x + c.B) % c.p := by
  have hdvd : onCurve c x y = true ↔ (c.p : Int) ∣ (y : Int) ^ 2 - curveRhs c x := by
    rw [onCurve, beq_iff_eq, ← Int.natCast_inj, resid_cast hp, Int.dvd_iff_emod_eq_zero]; rfl
  have hmod : y ^ 2 % c.p = (x ^ 3 + c.A * x + c.B) % c.p ↔ curveRhs c x ≡ y ^ 2 [MOD c.p] := by
    rw [curveRhs, Nat.ModEq, Nat.mod_mod]; exact eq_comm
  rw [hdvd, hmod, Nat.modEq_iff_dvd]; push_cast; rfl

theorem onCurve_eq_true_iff (x y : Nat) :
    onCurve Config.curve x y = true ↔
      y ^ 2 % Config.curve.p = (x ^ 3 + Config.curve.A * x + Config.curve.B) % Config.curve.p :=
  onCurve_iff _ curve_p_pos x y

end Sys2Proof.Machine
end

