-- ==== Sys2Proof/Laws/State.lean ====
section
/-! SUPPORT. One lemma per field per update of the state, each true by unfolding, so that no later proof unfolds a record
update; then the same for the register accessors. -/

namespace Sys2Proof.Machine

variable (s : State)

/-! ### `State.setF` -/

@[simp] theorem State.setF_f (i : FReg) (v : Reg) : (s.setF i v).f = s.f.set i.val v := rfl
@[simp] theorem State.setF_e (i : FReg) (v : Reg) : (s.setF i v).e = s.e := rfl
@[simp] theorem State.setF_q (i : FReg) (v : Reg) : (s.setF i v).q = s.q := rfl
@[simp] theorem State.setF_ub (i : FReg) (v : Reg) : (s.setF i v).ub = s.ub := rfl
@[simp] theorem State.setF_irqEn (i : FReg) (v : Reg) : (s.setF i v).irqEn = s.irqEn := rfl
@[simp] theorem State.setF_busy (i : FReg) (v : Reg) : (s.setF i v).busy = s.busy := rfl
@[simp] theorem State.setF_done (i : FReg) (v : Reg) : (s.setF i v).done = s.done := rfl
@[simp] theorem State.setF_err (i : FReg) (v : Reg) : (s.setF i v).err = s.err := rfl
@[simp] theorem State.setF_lastCmd (i : FReg) (v : Reg) : (s.setF i v).lastCmd = s.lastCmd := rfl
@[simp] theorem State.setF_errCode (i : FReg) (v : Reg) : (s.setF i v).errCode = s.errCode := rfl
@[simp] theorem State.setF_errInfo (i : FReg) (v : Reg) : (s.setF i v).errInfo = s.errInfo := rfl
@[simp] theorem State.setF_pending (i : FReg) (v : Reg) : (s.setF i v).pending = s.pending := rfl
@[simp] theorem State.setF_cnt (i : FReg) (v : Reg) : (s.setF i v).cnt = s.cnt := rfl
@[simp] theorem State.setF_schedule (i : FReg) (v : Reg) : (s.setF i v).schedule = s.schedule := rfl
@[simp] theorem State.setF_rdata (i : FReg) (v : Reg) : (s.setF i v).rdata = s.rdata := rfl
@[simp] theorem State.setF_draws (i : FReg) (v : Reg) : (s.setF i v).draws = s.draws := rfl

/-! ### `State.setE` -/

@[simp] theorem State.setE_f (i : EReg) (b : Bool) : (s.setE i b).f = s.f := rfl
@[simp] theorem State.setE_e (i : EReg) (b : Bool) : (s.setE i b).e = s.e.set i.val b := rfl
@[simp] theorem State.setE_q (i : EReg) (b : Bool) : (s.setE i b).q = s.q := rfl
@[simp] theorem State.setE_ub (i : EReg) (b : Bool) : (s.setE i b).ub = s.ub := rfl
@[simp] theorem State.setE_irqEn (i : EReg) (b : Bool) : (s.setE i b).irqEn = s.irqEn := rfl
@[simp] theorem State.setE_busy (i : EReg) (b : Bool) : (s.setE i b).busy = s.busy := rfl
@[simp] theorem State.setE_done (i : EReg) (b : Bool) : (s.setE i b).done = s.done := rfl
@[simp] theorem State.setE_err (i : EReg) (b : Bool) : (s.setE i b).err = s.err := rfl
@[simp] theorem State.setE_lastCmd (i : EReg) (b : Bool) : (s.setE i b).lastCmd = s.lastCmd := rfl
@[simp] theorem State.setE_errCode (i : EReg) (b : Bool) : (s.setE i b).errCode = s.errCode := rfl
@[simp] theorem State.setE_errInfo (i : EReg) (b : Bool) : (s.setE i b).errInfo = s.errInfo := rfl
@[simp] theorem State.setE_pending (i : EReg) (b : Bool) : (s.setE i b).pending = s.pending := rfl
@[simp] theorem State.setE_cnt (i : EReg) (b : Bool) : (s.setE i b).cnt = s.cnt := rfl
@[simp] theorem State.setE_schedule (i : EReg) (b : Bool) : (s.setE i b).schedule = s.schedule := rfl
@[simp] theorem State.setE_rdata (i : EReg) (b : Bool) : (s.setE i b).rdata = s.rdata := rfl
@[simp] theorem State.setE_draws (i : EReg) (b : Bool) : (s.setE i b).draws = s.draws := rfl

/-! ### `State.setQ` -/

@[simp] theorem State.setQ_f (i : QReg) (P : Point) : (s.setQ i P).f = s.f := rfl
@[simp] theorem State.setQ_e (i : QReg) (P : Point) : (s.setQ i P).e = s.e := rfl
@[simp] theorem State.setQ_q (i : QReg) (P : Point) : (s.setQ i P).q = s.q.set i.val P := rfl
@[simp] theorem State.setQ_ub (i : QReg) (P : Point) : (s.setQ i P).ub = s.ub := rfl
@[simp] theorem State.setQ_irqEn (i : QReg) (P : Point) : (s.setQ i P).irqEn = s.irqEn := rfl
@[simp] theorem State.setQ_busy (i : QReg) (P : Point) : (s.setQ i P).busy = s.busy := rfl
@[simp] theorem State.setQ_done (i : QReg) (P : Point) : (s.setQ i P).done = s.done := rfl
@[simp] theorem State.setQ_err (i : QReg) (P : Point) : (s.setQ i P).err = s.err := rfl
@[simp] theorem State.setQ_lastCmd (i : QReg) (P : Point) : (s.setQ i P).lastCmd = s.lastCmd := rfl
@[simp] theorem State.setQ_errCode (i : QReg) (P : Point) : (s.setQ i P).errCode = s.errCode := rfl
@[simp] theorem State.setQ_errInfo (i : QReg) (P : Point) : (s.setQ i P).errInfo = s.errInfo := rfl
@[simp] theorem State.setQ_pending (i : QReg) (P : Point) : (s.setQ i P).pending = s.pending := rfl
@[simp] theorem State.setQ_cnt (i : QReg) (P : Point) : (s.setQ i P).cnt = s.cnt := rfl
@[simp] theorem State.setQ_schedule (i : QReg) (P : Point) : (s.setQ i P).schedule = s.schedule := rfl
@[simp] theorem State.setQ_rdata (i : QReg) (P : Point) : (s.setQ i P).rdata = s.rdata := rfl
@[simp] theorem State.setQ_draws (i : QReg) (P : Point) : (s.setQ i P).draws = s.draws := rfl

/-! ### `State.wipe` -/

@[simp] theorem State.wipe_f : (s.wipe).f = Vector.replicate 16 0#256 := rfl
@[simp] theorem State.wipe_e : (s.wipe).e = Vector.replicate 8 false := rfl
@[simp] theorem State.wipe_q : (s.wipe).q = Vector.replicate 4 Point.identity := rfl
@[simp] theorem State.wipe_ub : (s.wipe).ub = Vector.replicate 96 0#8 := rfl
@[simp] theorem State.wipe_irqEn : (s.wipe).irqEn = s.irqEn := rfl
@[simp] theorem State.wipe_busy : (s.wipe).busy = s.busy := rfl
@[simp] theorem State.wipe_done : (s.wipe).done = s.done := rfl
@[simp] theorem State.wipe_err : (s.wipe).err = s.err := rfl
@[simp] theorem State.wipe_lastCmd : (s.wipe).lastCmd = s.lastCmd := rfl
@[simp] theorem State.wipe_errCode : (s.wipe).errCode = s.errCode := rfl
@[simp] theorem State.wipe_errInfo : (s.wipe).errInfo = s.errInfo := rfl
@[simp] theorem State.wipe_pending : (s.wipe).pending = s.pending := rfl
@[simp] theorem State.wipe_cnt : (s.wipe).cnt = s.cnt := rfl
@[simp] theorem State.wipe_schedule : (s.wipe).schedule = s.schedule := rfl
@[simp] theorem State.wipe_rdata : (s.wipe).rdata = s.rdata := rfl
@[simp] theorem State.wipe_draws : (s.wipe).draws = s.draws := rfl

/-! ### `State.clearErr` -/

@[simp] theorem State.clearErr_f : (s.clearErr).f = s.f := rfl
@[simp] theorem State.clearErr_e : (s.clearErr).e = s.e := rfl
@[simp] theorem State.clearErr_q : (s.clearErr).q = s.q := rfl
@[simp] theorem State.clearErr_ub : (s.clearErr).ub = s.ub := rfl
@[simp] theorem State.clearErr_irqEn : (s.clearErr).irqEn = s.irqEn := rfl
@[simp] theorem State.clearErr_busy : (s.clearErr).busy = s.busy := rfl
@[simp] theorem State.clearErr_done : (s.clearErr).done = s.done := rfl
@[simp] theorem State.clearErr_err : (s.clearErr).err = false := rfl
@[simp] theorem State.clearErr_lastCmd : (s.clearErr).lastCmd = s.lastCmd := rfl
@[simp] theorem State.clearErr_errCode : (s.clearErr).errCode = .none := rfl
@[simp] theorem State.clearErr_errInfo : (s.clearErr).errInfo = 0#32 := rfl
@[simp] theorem State.clearErr_pending : (s.clearErr).pending = s.pending := rfl
@[simp] theorem State.clearErr_cnt : (s.clearErr).cnt = s.cnt := rfl
@[simp] theorem State.clearErr_schedule : (s.clearErr).schedule = s.schedule := rfl
@[simp] theorem State.clearErr_rdata : (s.clearErr).rdata = s.rdata := rfl
@[simp] theorem State.clearErr_draws : (s.clearErr).draws = s.draws := rfl

/-! ### `State.clearDone` -/

@[simp] theorem State.clearDone_f : (s.clearDone).f = s.f := rfl
@[simp] theorem State.clearDone_e : (s.clearDone).e = s.e := rfl
@[simp] theorem State.clearDone_q : (s.clearDone).q = s.q := rfl
@[simp] theorem State.clearDone_ub : (s.clearDone).ub = s.ub := rfl
@[simp] theorem State.clearDone_irqEn : (s.clearDone).irqEn = s.irqEn := rfl
@[simp] theorem State.clearDone_busy : (s.clearDone).busy = s.busy := rfl
@[simp] theorem State.clearDone_done : (s.clearDone).done = false := rfl
@[simp] theorem State.clearDone_err : (s.clearDone).err = s.err := rfl
@[simp] theorem State.clearDone_lastCmd : (s.clearDone).lastCmd = s.lastCmd := rfl
@[simp] theorem State.clearDone_errCode : (s.clearDone).errCode = s.errCode := rfl
@[simp] theorem State.clearDone_errInfo : (s.clearDone).errInfo = s.errInfo := rfl
@[simp] theorem State.clearDone_pending : (s.clearDone).pending = s.pending := rfl
@[simp] theorem State.clearDone_cnt : (s.clearDone).cnt = s.cnt := rfl
@[simp] theorem State.clearDone_schedule : (s.clearDone).schedule = s.schedule := rfl
@[simp] theorem State.clearDone_rdata : (s.clearDone).rdata = s.rdata := rfl
@[simp] theorem State.clearDone_draws : (s.clearDone).draws = s.draws := rfl

/-! ### `State.accept` -/

@[simp] theorem State.accept_f (w : Word) : (s.accept w).f = s.f := rfl
@[simp] theorem State.accept_e (w : Word) : (s.accept w).e = s.e := rfl
@[simp] theorem State.accept_q (w : Word) : (s.accept w).q = s.q := rfl
@[simp] theorem State.accept_ub (w : Word) : (s.accept w).ub = s.ub := rfl
@[simp] theorem State.accept_irqEn (w : Word) : (s.accept w).irqEn = s.irqEn := rfl
@[simp] theorem State.accept_busy (w : Word) : (s.accept w).busy = true := rfl
@[simp] theorem State.accept_done (w : Word) : (s.accept w).done = s.done := rfl
@[simp] theorem State.accept_err (w : Word) : (s.accept w).err = s.err := rfl
@[simp] theorem State.accept_lastCmd (w : Word) : (s.accept w).lastCmd = w := rfl
@[simp] theorem State.accept_errCode (w : Word) : (s.accept w).errCode = s.errCode := rfl
@[simp] theorem State.accept_errInfo (w : Word) : (s.accept w).errInfo = s.errInfo := rfl
@[simp] theorem State.accept_pending (w : Word) : (s.accept w).pending = w := rfl
@[simp] theorem State.accept_cnt (w : Word) : (s.accept w).cnt = Config.lat (opF w) := rfl
@[simp] theorem State.accept_schedule (w : Word) : (s.accept w).schedule = s.schedule := rfl
@[simp] theorem State.accept_rdata (w : Word) : (s.accept w).rdata = s.rdata := rfl
@[simp] theorem State.accept_draws (w : Word) : (s.accept w).draws = s.draws := rfl

/-! ### `State.countDown` -/

@[simp] theorem State.countDown_f : (s.countDown).f = s.f := rfl
@[simp] theorem State.countDown_e : (s.countDown).e = s.e := rfl
@[simp] theorem State.countDown_q : (s.countDown).q = s.q := rfl
@[simp] theorem State.countDown_ub : (s.countDown).ub = s.ub := rfl
@[simp] theorem State.countDown_irqEn : (s.countDown).irqEn = s.irqEn := rfl
@[simp] theorem State.countDown_busy : (s.countDown).busy = s.busy := rfl
@[simp] theorem State.countDown_done : (s.countDown).done = s.done := rfl
@[simp] theorem State.countDown_err : (s.countDown).err = s.err := rfl
@[simp] theorem State.countDown_lastCmd : (s.countDown).lastCmd = s.lastCmd := rfl
@[simp] theorem State.countDown_errCode : (s.countDown).errCode = s.errCode := rfl
@[simp] theorem State.countDown_errInfo : (s.countDown).errInfo = s.errInfo := rfl
@[simp] theorem State.countDown_pending : (s.countDown).pending = s.pending := rfl
@[simp] theorem State.countDown_cnt : (s.countDown).cnt = s.cnt - 1 := rfl
@[simp] theorem State.countDown_schedule : (s.countDown).schedule = s.schedule := rfl
@[simp] theorem State.countDown_rdata : (s.countDown).rdata = s.rdata := rfl
@[simp] theorem State.countDown_draws : (s.countDown).draws = s.draws := rfl

/-! ### `State.retire` -/

@[simp] theorem State.retire_f : (s.retire).f = s.f := rfl
@[simp] theorem State.retire_e : (s.retire).e = s.e := rfl
@[simp] theorem State.retire_q : (s.retire).q = s.q := rfl
@[simp] theorem State.retire_ub : (s.retire).ub = s.ub := rfl
@[simp] theorem State.retire_irqEn : (s.retire).irqEn = s.irqEn := rfl
@[simp] theorem State.retire_busy : (s.retire).busy = false := rfl
@[simp] theorem State.retire_done : (s.retire).done = true := rfl
@[simp] theorem State.retire_err : (s.retire).err = s.err := rfl
@[simp] theorem State.retire_lastCmd : (s.retire).lastCmd = s.lastCmd := rfl
@[simp] theorem State.retire_errCode : (s.retire).errCode = s.errCode := rfl
@[simp] theorem State.retire_errInfo : (s.retire).errInfo = s.errInfo := rfl
@[simp] theorem State.retire_pending : (s.retire).pending = s.pending := rfl
@[simp] theorem State.retire_cnt : (s.retire).cnt = s.cnt := rfl
@[simp] theorem State.retire_schedule : (s.retire).schedule = s.schedule := rfl
@[simp] theorem State.retire_rdata : (s.retire).rdata = s.rdata := rfl
@[simp] theorem State.retire_draws : (s.retire).draws = s.draws := rfl

/-! ### `State.withSchedule` -/

@[simp] theorem State.withSchedule_f (es : List Event) : (s.withSchedule es).f = s.f := rfl
@[simp] theorem State.withSchedule_e (es : List Event) : (s.withSchedule es).e = s.e := rfl
@[simp] theorem State.withSchedule_q (es : List Event) : (s.withSchedule es).q = s.q := rfl
@[simp] theorem State.withSchedule_ub (es : List Event) : (s.withSchedule es).ub = s.ub := rfl
@[simp] theorem State.withSchedule_irqEn (es : List Event) : (s.withSchedule es).irqEn = s.irqEn := rfl
@[simp] theorem State.withSchedule_busy (es : List Event) : (s.withSchedule es).busy = s.busy := rfl
@[simp] theorem State.withSchedule_done (es : List Event) : (s.withSchedule es).done = s.done := rfl
@[simp] theorem State.withSchedule_err (es : List Event) : (s.withSchedule es).err = s.err := rfl
@[simp] theorem State.withSchedule_lastCmd (es : List Event) : (s.withSchedule es).lastCmd = s.lastCmd := rfl
@[simp] theorem State.withSchedule_errCode (es : List Event) : (s.withSchedule es).errCode = s.errCode := rfl
@[simp] theorem State.withSchedule_errInfo (es : List Event) : (s.withSchedule es).errInfo = s.errInfo := rfl
@[simp] theorem State.withSchedule_pending (es : List Event) : (s.withSchedule es).pending = s.pending := rfl
@[simp] theorem State.withSchedule_cnt (es : List Event) : (s.withSchedule es).cnt = s.cnt := rfl
@[simp] theorem State.withSchedule_schedule (es : List Event) : (s.withSchedule es).schedule = es := rfl
@[simp] theorem State.withSchedule_rdata (es : List Event) : (s.withSchedule es).rdata = s.rdata := rfl
@[simp] theorem State.withSchedule_draws (es : List Event) : (s.withSchedule es).draws = s.draws := rfl

/-! ### `State.answer` -/

@[simp] theorem State.answer_f (v : Word) : (s.answer v).f = s.f := rfl
@[simp] theorem State.answer_e (v : Word) : (s.answer v).e = s.e := rfl
@[simp] theorem State.answer_q (v : Word) : (s.answer v).q = s.q := rfl
@[simp] theorem State.answer_ub (v : Word) : (s.answer v).ub = s.ub := rfl
@[simp] theorem State.answer_irqEn (v : Word) : (s.answer v).irqEn = s.irqEn := rfl
@[simp] theorem State.answer_busy (v : Word) : (s.answer v).busy = s.busy := rfl
@[simp] theorem State.answer_done (v : Word) : (s.answer v).done = s.done := rfl
@[simp] theorem State.answer_err (v : Word) : (s.answer v).err = s.err := rfl
@[simp] theorem State.answer_lastCmd (v : Word) : (s.answer v).lastCmd = s.lastCmd := rfl
@[simp] theorem State.answer_errCode (v : Word) : (s.answer v).errCode = s.errCode := rfl
@[simp] theorem State.answer_errInfo (v : Word) : (s.answer v).errInfo = s.errInfo := rfl
@[simp] theorem State.answer_pending (v : Word) : (s.answer v).pending = s.pending := rfl
@[simp] theorem State.answer_cnt (v : Word) : (s.answer v).cnt = s.cnt := rfl
@[simp] theorem State.answer_schedule (v : Word) : (s.answer v).schedule = s.schedule := rfl
@[simp] theorem State.answer_rdata (v : Word) : (s.answer v).rdata = some v := rfl
@[simp] theorem State.answer_draws (v : Word) : (s.answer v).draws = s.draws := rfl

/-! ### `State.answerFree` -/

@[simp] theorem State.answerFree_f : (s.answerFree).f = s.f := rfl
@[simp] theorem State.answerFree_e : (s.answerFree).e = s.e := rfl
@[simp] theorem State.answerFree_q : (s.answerFree).q = s.q := rfl
@[simp] theorem State.answerFree_ub : (s.answerFree).ub = s.ub := rfl
@[simp] theorem State.answerFree_irqEn : (s.answerFree).irqEn = s.irqEn := rfl
@[simp] theorem State.answerFree_busy : (s.answerFree).busy = s.busy := rfl
@[simp] theorem State.answerFree_done : (s.answerFree).done = s.done := rfl
@[simp] theorem State.answerFree_err : (s.answerFree).err = s.err := rfl
@[simp] theorem State.answerFree_lastCmd : (s.answerFree).lastCmd = s.lastCmd := rfl
@[simp] theorem State.answerFree_errCode : (s.answerFree).errCode = s.errCode := rfl
@[simp] theorem State.answerFree_errInfo : (s.answerFree).errInfo = s.errInfo := rfl
@[simp] theorem State.answerFree_pending : (s.answerFree).pending = s.pending := rfl
@[simp] theorem State.answerFree_cnt : (s.answerFree).cnt = s.cnt := rfl
@[simp] theorem State.answerFree_schedule : (s.answerFree).schedule = s.schedule := rfl
@[simp] theorem State.answerFree_rdata : (s.answerFree).rdata = some (Config.freeRead s.draws) := rfl
@[simp] theorem State.answerFree_draws : (s.answerFree).draws = s.draws + 1 := rfl

/-! ### `State.setUbWord` -/

@[simp] theorem State.setUbWord_f (m : Fin 24) (v : Word) : (s.setUbWord m v).f = s.f := rfl
@[simp] theorem State.setUbWord_e (m : Fin 24) (v : Word) : (s.setUbWord m v).e = s.e := rfl
@[simp] theorem State.setUbWord_q (m : Fin 24) (v : Word) : (s.setUbWord m v).q = s.q := rfl
@[simp] theorem State.setUbWord_ub (m : Fin 24) (v : Word) : (s.setUbWord m v).ub = withUbWord s.ub m v := rfl
@[simp] theorem State.setUbWord_irqEn (m : Fin 24) (v : Word) : (s.setUbWord m v).irqEn = s.irqEn := rfl
@[simp] theorem State.setUbWord_busy (m : Fin 24) (v : Word) : (s.setUbWord m v).busy = s.busy := rfl
@[simp] theorem State.setUbWord_done (m : Fin 24) (v : Word) : (s.setUbWord m v).done = s.done := rfl
@[simp] theorem State.setUbWord_err (m : Fin 24) (v : Word) : (s.setUbWord m v).err = s.err := rfl
@[simp] theorem State.setUbWord_lastCmd (m : Fin 24) (v : Word) : (s.setUbWord m v).lastCmd = s.lastCmd := rfl
@[simp] theorem State.setUbWord_errCode (m : Fin 24) (v : Word) : (s.setUbWord m v).errCode = s.errCode := rfl
@[simp] theorem State.setUbWord_errInfo (m : Fin 24) (v : Word) : (s.setUbWord m v).errInfo = s.errInfo := rfl
@[simp] theorem State.setUbWord_pending (m : Fin 24) (v : Word) : (s.setUbWord m v).pending = s.pending := rfl
@[simp] theorem State.setUbWord_cnt (m : Fin 24) (v : Word) : (s.setUbWord m v).cnt = s.cnt := rfl
@[simp] theorem State.setUbWord_schedule (m : Fin 24) (v : Word) : (s.setUbWord m v).schedule = s.schedule := rfl
@[simp] theorem State.setUbWord_rdata (m : Fin 24) (v : Word) : (s.setUbWord m v).rdata = s.rdata := rfl
@[simp] theorem State.setUbWord_draws (m : Fin 24) (v : Word) : (s.setUbWord m v).draws = s.draws := rfl

/-! ### `State.setPred` -/

@[simp] theorem State.setPred_f (v : Word) : (s.setPred v).f = s.f := rfl
@[simp] theorem State.setPred_e (v : Word) : (s.setPred v).e = predBits v := rfl
@[simp] theorem State.setPred_q (v : Word) : (s.setPred v).q = s.q := rfl
@[simp] theorem State.setPred_ub (v : Word) : (s.setPred v).ub = s.ub := rfl
@[simp] theorem State.setPred_irqEn (v : Word) : (s.setPred v).irqEn = s.irqEn := rfl
@[simp] theorem State.setPred_busy (v : Word) : (s.setPred v).busy = s.busy := rfl
@[simp] theorem State.setPred_done (v : Word) : (s.setPred v).done = s.done := rfl
@[simp] theorem State.setPred_err (v : Word) : (s.setPred v).err = s.err := rfl
@[simp] theorem State.setPred_lastCmd (v : Word) : (s.setPred v).lastCmd = s.lastCmd := rfl
@[simp] theorem State.setPred_errCode (v : Word) : (s.setPred v).errCode = s.errCode := rfl
@[simp] theorem State.setPred_errInfo (v : Word) : (s.setPred v).errInfo = s.errInfo := rfl
@[simp] theorem State.setPred_pending (v : Word) : (s.setPred v).pending = s.pending := rfl
@[simp] theorem State.setPred_cnt (v : Word) : (s.setPred v).cnt = s.cnt := rfl
@[simp] theorem State.setPred_schedule (v : Word) : (s.setPred v).schedule = s.schedule := rfl
@[simp] theorem State.setPred_rdata (v : Word) : (s.setPred v).rdata = s.rdata := rfl
@[simp] theorem State.setPred_draws (v : Word) : (s.setPred v).draws = s.draws := rfl

/-! ### `State.setIrqEn` -/

@[simp] theorem State.setIrqEn_f (b : Bool) : (s.setIrqEn b).f = s.f := rfl
@[simp] theorem State.setIrqEn_e (b : Bool) : (s.setIrqEn b).e = s.e := rfl
@[simp] theorem State.setIrqEn_q (b : Bool) : (s.setIrqEn b).q = s.q := rfl
@[simp] theorem State.setIrqEn_ub (b : Bool) : (s.setIrqEn b).ub = s.ub := rfl
@[simp] theorem State.setIrqEn_irqEn (b : Bool) : (s.setIrqEn b).irqEn = b := rfl
@[simp] theorem State.setIrqEn_busy (b : Bool) : (s.setIrqEn b).busy = s.busy := rfl
@[simp] theorem State.setIrqEn_done (b : Bool) : (s.setIrqEn b).done = s.done := rfl
@[simp] theorem State.setIrqEn_err (b : Bool) : (s.setIrqEn b).err = s.err := rfl
@[simp] theorem State.setIrqEn_lastCmd (b : Bool) : (s.setIrqEn b).lastCmd = s.lastCmd := rfl
@[simp] theorem State.setIrqEn_errCode (b : Bool) : (s.setIrqEn b).errCode = s.errCode := rfl
@[simp] theorem State.setIrqEn_errInfo (b : Bool) : (s.setIrqEn b).errInfo = s.errInfo := rfl
@[simp] theorem State.setIrqEn_pending (b : Bool) : (s.setIrqEn b).pending = s.pending := rfl
@[simp] theorem State.setIrqEn_cnt (b : Bool) : (s.setIrqEn b).cnt = s.cnt := rfl
@[simp] theorem State.setIrqEn_schedule (b : Bool) : (s.setIrqEn b).schedule = s.schedule := rfl
@[simp] theorem State.setIrqEn_rdata (b : Bool) : (s.setIrqEn b).rdata = s.rdata := rfl
@[simp] theorem State.setIrqEn_draws (b : Bool) : (s.setIrqEn b).draws = s.draws := rfl

/-! ### `State.inFlight` -/

@[simp] theorem State.inFlight_f (w : Word) : (s.inFlight w).f = s.f := rfl
@[simp] theorem State.inFlight_e (w : Word) : (s.inFlight w).e = s.e := rfl
@[simp] theorem State.inFlight_q (w : Word) : (s.inFlight w).q = s.q := rfl
@[simp] theorem State.inFlight_ub (w : Word) : (s.inFlight w).ub = s.ub := rfl
@[simp] theorem State.inFlight_irqEn (w : Word) : (s.inFlight w).irqEn = s.irqEn := rfl
@[simp] theorem State.inFlight_busy (w : Word) : (s.inFlight w).busy = true := rfl
@[simp] theorem State.inFlight_done (w : Word) : (s.inFlight w).done = s.done := rfl
@[simp] theorem State.inFlight_err (w : Word) : (s.inFlight w).err = s.err := rfl
@[simp] theorem State.inFlight_lastCmd (w : Word) : (s.inFlight w).lastCmd = w := rfl
@[simp] theorem State.inFlight_errCode (w : Word) : (s.inFlight w).errCode = s.errCode := rfl
@[simp] theorem State.inFlight_errInfo (w : Word) : (s.inFlight w).errInfo = s.errInfo := rfl
@[simp] theorem State.inFlight_pending (w : Word) : (s.inFlight w).pending = w := rfl
@[simp] theorem State.inFlight_cnt (w : Word) : (s.inFlight w).cnt = 0 := rfl
@[simp] theorem State.inFlight_schedule (w : Word) : (s.inFlight w).schedule = .cycle :: s.schedule := rfl
@[simp] theorem State.inFlight_rdata (w : Word) : (s.inFlight w).rdata = s.rdata := rfl
@[simp] theorem State.inFlight_draws (w : Word) : (s.inFlight w).draws = s.draws := rfl

/-! ### `State.resetEngine` -/

@[simp] theorem State.resetEngine_f : (s.resetEngine).f = Vector.replicate 16 0#256 := rfl
@[simp] theorem State.resetEngine_e : (s.resetEngine).e = Vector.replicate 8 false := rfl
@[simp] theorem State.resetEngine_q : (s.resetEngine).q = Vector.replicate 4 Point.identity := rfl
@[simp] theorem State.resetEngine_ub : (s.resetEngine).ub = Vector.replicate 96 0#8 := rfl
@[simp] theorem State.resetEngine_irqEn : (s.resetEngine).irqEn = false := rfl
@[simp] theorem State.resetEngine_busy : (s.resetEngine).busy = false := rfl
@[simp] theorem State.resetEngine_done : (s.resetEngine).done = false := rfl
@[simp] theorem State.resetEngine_err : (s.resetEngine).err = false := rfl
@[simp] theorem State.resetEngine_lastCmd : (s.resetEngine).lastCmd = 0#32 := rfl
@[simp] theorem State.resetEngine_errCode : (s.resetEngine).errCode = .none := rfl
@[simp] theorem State.resetEngine_errInfo : (s.resetEngine).errInfo = 0#32 := rfl
@[simp] theorem State.resetEngine_pending : (s.resetEngine).pending = 0#32 := rfl
@[simp] theorem State.resetEngine_cnt : (s.resetEngine).cnt = 0 := rfl
@[simp] theorem State.resetEngine_schedule : (s.resetEngine).schedule = s.schedule := rfl
@[simp] theorem State.resetEngine_rdata : (s.resetEngine).rdata = s.rdata := rfl
@[simp] theorem State.resetEngine_draws : (s.resetEngine).draws = s.draws := rfl

/-! ### The fields the latch leaves alone -/

@[simp] theorem State.latch_f (code : ErrCode) (info : Word) : (s.latch code info).f = s.f := by
  unfold State.latch; split <;> rfl
@[simp] theorem State.latch_e (code : ErrCode) (info : Word) : (s.latch code info).e = s.e := by
  unfold State.latch; split <;> rfl
@[simp] theorem State.latch_q (code : ErrCode) (info : Word) : (s.latch code info).q = s.q := by
  unfold State.latch; split <;> rfl
@[simp] theorem State.latch_ub (code : ErrCode) (info : Word) : (s.latch code info).ub = s.ub := by
  unfold State.latch; split <;> rfl
@[simp] theorem State.latch_irqEn (code : ErrCode) (info : Word) : (s.latch code info).irqEn = s.irqEn := by
  unfold State.latch; split <;> rfl
@[simp] theorem State.latch_busy (code : ErrCode) (info : Word) : (s.latch code info).busy = s.busy := by
  unfold State.latch; split <;> rfl
@[simp] theorem State.latch_done (code : ErrCode) (info : Word) : (s.latch code info).done = s.done := by
  unfold State.latch; split <;> rfl
@[simp] theorem State.latch_lastCmd (code : ErrCode) (info : Word) : (s.latch code info).lastCmd = s.lastCmd := by
  unfold State.latch; split <;> rfl
@[simp] theorem State.latch_pending (code : ErrCode) (info : Word) : (s.latch code info).pending = s.pending := by
  unfold State.latch; split <;> rfl
@[simp] theorem State.latch_cnt (code : ErrCode) (info : Word) : (s.latch code info).cnt = s.cnt := by
  unfold State.latch; split <;> rfl
@[simp] theorem State.latch_schedule (code : ErrCode) (info : Word) : (s.latch code info).schedule = s.schedule := by
  unfold State.latch; split <;> rfl
@[simp] theorem State.latch_rdata (code : ErrCode) (info : Word) : (s.latch code info).rdata = s.rdata := by
  unfold State.latch; split <;> rfl
@[simp] theorem State.latch_draws (code : ErrCode) (info : Word) : (s.latch code info).draws = s.draws := by
  unfold State.latch; split <;> rfl

/-! ### The latch itself (60_exceptions.md R200) -/

@[simp] theorem State.latch_err (code : ErrCode) (info : Word) : (s.latch code info).err = true := by
  unfold State.latch; split <;> simp_all

theorem State.latch_of_err {s : State} (h : s.err = true) (code : ErrCode) (info : Word) : s.latch code info = s := by
  simp [State.latch, h]

theorem State.latch_errCode (code : ErrCode) (info : Word) :
    (s.latch code info).errCode = if s.err then s.errCode else code := by
  unfold State.latch; split <;> rfl

theorem State.latch_errInfo (code : ErrCode) (info : Word) :
    (s.latch code info).errInfo = if s.err then s.errInfo else info := by
  unfold State.latch; split <;> rfl

/-! ### The register accessors -/

@[simp] theorem State.getF_setF_self (i : FReg) (v : Reg) : (s.setF i v).getF i = v := by
  simp [State.getF]

theorem State.getF_setF_of_ne {i j : FReg} (h : j ≠ i) (v : Reg) : (s.setF i v).getF j = s.getF j := by
  simp [State.getF, Fin.val_ne_of_ne h.symm]

@[simp] theorem State.getE_setE_self (i : EReg) (b : Bool) : (s.setE i b).getE i = b := by
  simp [State.getE]

theorem State.getE_setE_of_ne {i j : EReg} (h : j ≠ i) (b : Bool) : (s.setE i b).getE j = s.getE j := by
  simp [State.getE, Fin.val_ne_of_ne h.symm]

@[simp] theorem State.getQ_setQ_self (i : QReg) (P : Point) : (s.setQ i P).getQ i = P := by
  simp [State.getQ]

theorem State.getQ_setQ_of_ne {i j : QReg} (h : j ≠ i) (P : Point) : (s.setQ i P).getQ j = s.getQ j := by
  simp [State.getQ, Fin.val_ne_of_ne h.symm]

/-- `getF` reads the field `f` alone. -/
theorem State.getF_congr {s t : State} (h : t.f = s.f) (i : FReg) : t.getF i = s.getF i := by
  simp [State.getF, h]

/-- `getE` reads the field `e` alone. -/
theorem State.getE_congr {s t : State} (h : t.e = s.e) (i : EReg) : t.getE i = s.getE i := by
  simp [State.getE, h]

/-- `getQ` reads the field `q` alone. -/
theorem State.getQ_congr {s t : State} (h : t.q = s.q) (i : QReg) : t.getQ i = s.getQ i := by
  simp [State.getQ, h]

/-- `fv` reads the field `f` alone. -/
theorem State.fv_congr {s t : State} (h : t.f = s.f) (i : FReg) : t.fv i = s.fv i := by
  simp [State.fv, State.getF_congr h]

end Sys2Proof.Machine
end

