-- ==== Sys2Proof/Laws/Ops.lean ====
section
/-! SUPPORT. What each shared operation can do, said once: the writes of field values, the lift, issue, the window, the
engine cycle and the step. -/

namespace Sys2Proof.Machine

open Host

/-! ### Writing a field value -/

theorem State.writeField_eq (s : State) (i : FReg) (n : Nat) : s.writeField i n = s.setF i (BitVec.ofNat 256 n) := rfl

/-- A value below `p` is held as it is (00_scope.md R11). -/
theorem State.toNat_getF_writeField (s : State) (i : FReg) {n : Nat} (h : n < Config.curve.p) :
    ((s.writeField i n).getF i).toNat = n := by
  rw [State.writeField_eq, State.getF_setF_self, toNat_ofNat_of_lt h]

/-- `wipe` and `resetEngine` leave the same operand registers. -/
theorem State.getF_of_replicate {s : State} (h : s.f = Vector.replicate 16 0#256) (i : FReg) : s.getF i = 0#256 := by
  simp [State.getF, h]

theorem State.getE_of_replicate {s : State} (h : s.e = Vector.replicate 8 false) (i : EReg) : s.getE i = false := by
  simp [State.getE, h]

theorem State.getQ_of_replicate {s : State} (h : s.q = Vector.replicate 4 Point.identity) (i : QReg) :
    s.getQ i = Point.identity := by
  simp [State.getQ, h]

/-! ### The lift (43_curve.md R161) -/

theorem lift_eq_some_iff (x y : Nat) (P : Point) :
    lift Config.curve x y = some P ↔
      x < Config.curve.p ∧ y < Config.curve.p ∧ onCurve Config.curve x y = true ∧ P = .affine x y := by
  unfold lift
  split
  · next h => constructor
              · intro hc; cases hc
              · rintro ⟨hx, hy, -⟩; omega
  · next h => split
              · next hc => simp only [hc, Option.some.injEq]; constructor
                           · intro hP; exact ⟨by omega, by omega, trivial, hP.symm⟩
                           · rintro ⟨-, -, -, hP⟩; exact hP.symm
              · next hc => simp [hc]

/-! ### Issue (10_state.md R38), one lemma per case -/

theorem State.issue_busy {s : State} (h : s.busy = true) (w : Word) : s.issue w = s.latch .overrun w := by
  simp [State.issue, h]

theorem State.issue_err {s : State} (hb : s.busy = false) (h : s.err = true) (w : Word) : s.issue w = s := by
  simp [State.issue, hb, h]

theorem State.issue_illegal {s : State} (hb : s.busy = false) (he : s.err = false) {w : Word} (h : legal w = false) :
    s.issue w = s.reject w := by
  simp [State.issue, hb, he, h]

theorem State.issue_legal {s : State} (hb : s.busy = false) (he : s.err = false) {w : Word} (h : legal w = true) :
    s.issue w = s.accept w := by
  simp [State.issue, hb, he, h]

/-- Everything an issue can do. -/
theorem State.issue_cases (s : State) (w : Word) :
    (s.busy = true ∧ s.issue w = s.latch .overrun w) ∨
    (s.busy = false ∧ s.err = true ∧ s.issue w = s) ∨
    (s.busy = false ∧ s.err = false ∧ legal w = false ∧ s.issue w = s.reject w) ∨
    (s.busy = false ∧ s.err = false ∧ legal w = true ∧ s.issue w = s.accept w) := by
  cases hb : s.busy
  · cases he : s.err
    · cases hl : legal w
      · exact .inr (.inr (.inl ⟨rfl, rfl, rfl, issue_illegal hb he hl⟩))
      · exact .inr (.inr (.inr ⟨rfl, rfl, rfl, issue_legal hb he hl⟩))
    · exact .inr (.inl ⟨rfl, rfl, issue_err hb he w⟩)
  · exact .inl ⟨rfl, issue_busy hb w⟩

/-! ### Decoding and legality -/

/-- The decoder accepts a word iff it is legal, and then reads the opcode's command. -/
theorem decode_of_legal {w : Word} (h : legal w = true) : ∃ o, Opcode.ofCode? (opF w) = some o ∧ decode w = .ok (o.build w) := by
  unfold legal at h
  split at h
  · cases h
  · next o ho =>
    refine ⟨o, ho, ?_⟩
    simp only [Bool.and_eq_true, Bool.or_eq_true, bne_iff_ne, beq_iff_eq] at h
    obtain ⟨⟨hr, hf⟩, hs⟩ := h
    unfold decode
    rw [ho]
    by_cases hsw : o = .swu
    · have hd : dF w ≠ bF w := hs.resolve_left (by simp [hsw])
      simp [hr, hf, hd]
    · simp [hr, hf, hsw]

/-! ### `Execute` always answers -/

/-- Every command, in every state, leads to a next state: none faults or refuses. -/
theorem exec_next (i : Instr) (s : State) : ∃ t, exec i s = .next t := by
  cases i
  case qlift d a b =>
    change ∃ t, execQlift d a b s = .next t
    unfold execQlift
    cases lift Config.curve (s.raw a) (s.raw b) with
    | some P => exact ⟨_, rfl⟩
    | none => exact ⟨_, rfl⟩
  case h2c d =>
    change ∃ t, execH2c d s = .next t
    unfold execH2c
    dsimp only
    split
    · exact ⟨_, rfl⟩
    · exact ⟨_, rfl⟩
  all_goals exact ⟨_, rfl⟩

/-! ### The engine's cycle (10_state.md R39) -/

theorem completeWith_eq_next {i : Instr} {s t : State} (h : exec i s = .next t) : completeWith i s = .next t.retire := by
  simp [completeWith, h]

theorem complete_of_decode {s : State} {i : Instr} (h : decode s.pending = .ok i) : complete s = completeWith i s := by
  simp [complete, h]

theorem engineCycle_idle {s : State} (h : s.busy = false) : engineCycle s = .next s := by
  simp [engineCycle, h]

theorem engineCycle_count {s : State} (h : s.busy = true) (hc : s.cnt ≠ 0) : engineCycle s = .next s.countDown := by
  simp [engineCycle, h, hc]

theorem engineCycle_due {s : State} (h : s.busy = true) (hc : s.cnt = 0) : engineCycle s = complete s := by
  simp [engineCycle, h, hc]

/-- Everything an engine cycle that answers can do. -/
theorem engineCycle_cases {s t : State} (h : engineCycle s = .next t) :
    (s.busy = false ∧ t = s) ∨
    (s.busy = true ∧ s.cnt ≠ 0 ∧ t = s.countDown) ∨
    (s.busy = true ∧ s.cnt = 0 ∧ ∃ i u, decode s.pending = .ok i ∧ exec i s = .next u ∧ t = u.retire) := by
  cases hb : s.busy
  · rw [engineCycle_idle hb] at h
    cases h; exact .inl ⟨rfl, rfl⟩
  · by_cases hc : s.cnt = 0
    · rw [engineCycle_due hb hc] at h
      unfold complete at h
      split at h
      · next i hi =>
        obtain ⟨u, hu⟩ := exec_next i s
        rw [completeWith_eq_next hu] at h
        cases h
        exact .inr (.inr ⟨rfl, hc, i, u, hi, hu, rfl⟩)
      · cases h
    · rw [engineCycle_count hb hc] at h
      cases h; exact .inr (.inl ⟨rfl, hc, rfl⟩)

/-! ### The step -/

theorem step_nil {s : State} (h : s.schedule = []) : step s = engineCycle s := by
  simp [step, h, happen]

theorem step_cons {s : State} {e : Event} {es : List Event} (h : s.schedule = e :: es) :
    step s = happen e (s.withSchedule es) := by
  simp [step, h]

/-- Everything a host access that answers can do. -/
theorem hostAccess_cases {a : Access} {s t : State} (h : hostAccess a s = .next t) :
    (∃ addr, a = .read addr 4 ∧ inWindow addr = true ∧ (addr - Config.base) % 4 = 0 ∧
      t = s.memRead (addr - Config.base)) ∨
    (∃ addr v, a = .write addr 4 v ∧ inWindow addr = true ∧ (addr - Config.base) % 4 = 0 ∧
      t = s.memWrite (addr - Config.base) v) := by
  cases a with
  | read addr bytes =>
    unfold hostAccess at h
    dsimp only at h
    split at h
    · cases h
    · next hw =>
      split at h
      · cases h
      · next ha =>
        cases h
        simp [accepted] at hw ha
        exact .inl ⟨addr, by rw [ha.1], hw, ha.2, rfl⟩
  | write addr bytes v =>
    unfold hostAccess at h
    dsimp only at h
    split at h
    · cases h
    · next hw =>
      split at h
      · cases h
      · next ha =>
        cases h
        simp [accepted] at hw ha
        exact .inr ⟨addr, v, by rw [ha.1], hw, ha.2, rfl⟩

/-- Everything a step that answers can do: an engine cycle, a read, a write, or a reset. -/
theorem step_cases {s t : State} (h : step s = .next t) :
    ∃ es, (s.schedule = [] ∧ es = [] ∨ ∃ e, s.schedule = e :: es) ∧
      (engineCycle (s.withSchedule es) = .next t ∨
        (∃ off, t = (s.withSchedule es).memRead off) ∨
        (∃ off v, t = (s.withSchedule es).memWrite off v) ∨
        t = (s.withSchedule es).resetEngine) := by
  cases hs : s.schedule with
  | nil =>
    have hse : s.withSchedule [] = s := by cases s; simp_all [State.withSchedule]
    rw [step_nil hs] at h
    exact ⟨[], .inl ⟨rfl, rfl⟩, .inl (hse.symm ▸ h)⟩
  | cons e es =>
    rw [step_cons hs] at h
    refine ⟨es, .inr ⟨e, rfl⟩, ?_⟩
    cases e with
    | access a =>
      rcases hostAccess_cases h with ⟨addr, -, -, -, ht⟩ | ⟨addr, v, -, -, -, ht⟩
      · exact .inr (.inl ⟨_, ht⟩)
      · exact .inr (.inr (.inl ⟨_, v, ht⟩))
    | cycle => exact .inl h
    | hardReset => cases h; exact .inr (.inr (.inr rfl))

end Sys2Proof.Machine
end

