-- ==== Sys2Proof/Laws/PerInstr.lean ====
section
/-! SUPPORT. The family `EncodedOpcode`: the opcode field of a command's word is the number of its opcode, and the opcode
is found again by that number (30_encoding.md R83). One lemma per constructor. -/

namespace Sys2Proof.Laws.EncodedOpcode

/-- What the family says of one command. -/
def Statement (i : Instr) : Prop := opF (encode i) = i.opcode.code ∧ Opcode.ofCode? (opF (encode i)) = some i.opcode

/-- All the family's lemmas have this proof: the word is packed with its opcode's number. -/
theorem of_pack {i : Instr} {d a b e k : BitVec 4} (h : encode i = pack i.opcode.code d a b e k) : Statement i := by
  unfold Statement
  rw [h, opF_pack]
  exact ⟨rfl, (ofCode?_eq_some_iff _ _).mpr rfl⟩

theorem nop : Statement (.nop) := of_pack rfl
theorem fadd (d a b : FReg) : Statement (.fadd d a b) := of_pack rfl
theorem fsub (d a b : FReg) : Statement (.fsub d a b) := of_pack rfl
theorem fneg (d a : FReg) : Statement (.fneg d a) := of_pack rfl
theorem fmul (d a b : FReg) : Statement (.fmul d a b) := of_pack rfl
theorem fsqr (d a : FReg) : Statement (.fsqr d a) := of_pack rfl
theorem finv (d a : FReg) : Statement (.finv d a) := of_pack rfl
theorem fdiv (d a b : FReg) : Statement (.fdiv d a b) := of_pack rfl
theorem fexp (d a b : FReg) : Statement (.fexp d a b) := of_pack rfl
theorem fsqrt (d a : FReg) : Statement (.fsqrt d a) := of_pack rfl
theorem fmov (d a : FReg) : Statement (.fmov d a) := of_pack rfl
theorem fldk (d : FReg) (k : FieldConst) : Statement (.fldk d k) := of_pack rfl
theorem fldu (d : FReg) (h : Half) : Statement (.fldu d h) := of_pack rfl
theorem fisz (d : EReg) (a : FReg) : Statement (.fisz d a) := of_pack rfl
theorem feq (d : EReg) (a b : FReg) : Statement (.feq d a b) := of_pack rfl
theorem fissq (d : EReg) (a : FReg) : Statement (.fissq d a) := of_pack rfl
theorem fsgn0 (d : EReg) (a : FReg) : Statement (.fsgn0 d a) := of_pack rfl
theorem fcmov (d a b : FReg) (e : EReg) : Statement (.fcmov d a b e) := of_pack rfl
theorem pand (d a b : EReg) : Statement (.pand d a b) := of_pack rfl
theorem por (d a b : EReg) : Statement (.por d a b) := of_pack rfl
theorem pxor (d a b : EReg) : Statement (.pxor d a b) := of_pack rfl
theorem pxnor (d a b : EReg) : Statement (.pxnor d a b) := of_pack rfl
theorem pnot (d a : EReg) : Statement (.pnot d a) := of_pack rfl
theorem pset (d : EReg) (v : Bool) : Statement (.pset d v) := of_pack rfl
theorem swu (d a b : FReg) : Statement (.swu d a b) := of_pack rfl
theorem qlift (d : QReg) (a b : FReg) : Statement (.qlift d a b) := of_pack rfl
theorem qinf (d : QReg) : Statement (.qinf d) := of_pack rfl
theorem qgetx (d : FReg) (a : QReg) : Statement (.qgetx d a) := of_pack rfl
theorem qgety (d : FReg) (a : QReg) : Statement (.qgety d a) := of_pack rfl
theorem qisinf (d : EReg) (a : QReg) : Statement (.qisinf d a) := of_pack rfl
theorem qadd (d a b : QReg) : Statement (.qadd d a b) := of_pack rfl
theorem qdbl (d a : QReg) : Statement (.qdbl d a) := of_pack rfl
theorem h2c (d : QReg) : Statement (.h2c d) := of_pack rfl
theorem zero : Statement (.zero) := of_pack rfl

end Sys2Proof.Laws.EncodedOpcode
end

