-- ==== Sys2Proof/Laws/Prime.lean ====
section
/-! SUPPORT. The modulus of P-256 is prime (00_scope.md R9(d), R10): Lucas's test, down a chain of factorisations of
`q − 1`. -/

namespace Sys2Proof.Machine

/-- In `GF(m)` a power is 1 iff `powMod` says so. -/
theorem zmod_pow_eq_one_iff {m a n : Nat} (hm : 1 < m) (hn : n < 2 ^ 256) :
    ((a : ZMod m) ^ n = 1) ↔ powMod m a n = 1 := by
  rw [powMod_eq m a hn, ← Nat.cast_pow, ← Nat.cast_one, ZMod.natCast_eq_natCast_iff', Nat.mod_eq_of_lt hm]

/-- Lucas's test with the prime factors of `m − 1` listed. -/
theorem prime_of_factors (m a : Nat) (fs : List Nat) (hm : 1 < m) (hlt : m < 2 ^ 256) (hprod : fs.prod = m - 1)
    (hprime : ∀ q ∈ fs, q.Prime) (hone : powMod m a (m - 1) = 1)
    (hne : ∀ q ∈ fs, powMod m a ((m - 1) / q) ≠ 1) : m.Prime := by
  refine lucas_primality m (a : ZMod m) ((zmod_pow_eq_one_iff hm (by omega)).mpr hone) fun q hq hdvd => ?_
  have hmem : q ∈ fs := by
    obtain ⟨r, hr, hqr⟩ := (hq.prime.dvd_prod_iff).mp (hprod ▸ hdvd)
    exact ((Nat.prime_dvd_prime_iff_eq hq (hprime r hr)).mp hqr) ▸ hr
  have hle : (m - 1) / q ≤ m - 1 := Nat.div_le_self _ _
  exact fun h => hne q hmem ((zmod_pow_eq_one_iff hm (by omega)).mp h)

theorem prime_204061199 : Nat.Prime 204061199 :=
  prime_of_factors _ 11 [2, 11, 23, 107, 3769] (by norm_num) (by norm_num) (by norm_num) (by norm_num)
    (by decide +kernel) (by decide +kernel)

theorem prime_34282281433 : Nat.Prime 34282281433 :=
  prime_of_factors _ 17 [2, 2, 2, 3, 7, 204061199] (by norm_num) (by norm_num) (by norm_num)
    (by simp only [List.forall_mem_cons, prime_204061199, true_and]; norm_num) (by decide +kernel) (by decide +kernel)

theorem prime_66417393611 : Nat.Prime 66417393611 :=
  prime_of_factors _ 6 [2, 5, 53, 173, 197, 3677] (by norm_num) (by norm_num) (by norm_num) (by norm_num)
    (by decide +kernel) (by decide +kernel)

theorem prime_11290956913871 : Nat.Prime 11290956913871 :=
  prime_of_factors _ 13 [2, 5, 17, 66417393611] (by norm_num) (by norm_num) (by norm_num)
    (by simp only [List.forall_mem_cons, prime_66417393611, true_and]; norm_num) (by decide +kernel) (by decide +kernel)

theorem prime_46076956964474543 : Nat.Prime 46076956964474543 :=
  prime_of_factors _ 5 [2, 23, 18169, 78283, 704251] (by norm_num) (by norm_num) (by norm_num) (by norm_num)
    (by decide +kernel) (by decide +kernel)

theorem prime_factor_150_bits : Nat.Prime 774023187263532362759620327192479577272145303 :=
  prime_of_factors _ 3 [2, 3, 3, 2411, 34282281433, 11290956913871, 46076956964474543] (by norm_num) (by norm_num)
    (by norm_num)
    (by
      simp only [List.forall_mem_cons, prime_34282281433, prime_11290956913871, prime_46076956964474543, true_and]
      norm_num)
    (by decide +kernel) (by decide +kernel)

theorem prime_factor_160_bits : Nat.Prime 835945042244614951780389953367877943453916927241 :=
  prime_of_factors _ 11 [2, 2, 2, 3, 3, 3, 5, 774023187263532362759620327192479577272145303] (by norm_num) (by norm_num)
    (by norm_num) (by simp only [List.forall_mem_cons, prime_factor_150_bits, true_and]; norm_num) (by decide +kernel)
    (by decide +kernel)

/-- The modulus of the instance is prime. -/
theorem curve_p_prime : Config.curve.p.Prime :=
  prime_of_factors _ 6
    [2, 3, 5, 5, 17, 257, 641, 1531, 65537, 490463, 6700417, 835945042244614951780389953367877943453916927241]
    (by decide +kernel) (by decide +kernel) (by decide +kernel)
    (by simp only [List.forall_mem_cons, prime_factor_160_bits, true_and]; norm_num) (by decide +kernel) (by decide +kernel)

end Sys2Proof.Machine
end

