-- ==== Sys2Proof/Laws/Window.lean ====
section
/-! SUPPORT. The window's map, offset by offset, and what a write can do (20_memory.md R50 to R56). -/

namespace Sys2Proof.Machine

/-! ### The map -/

theorem slotAt_f (i : FReg) (k : Fin 8) : slotAt (0x100 + 0x20 * i.val + 4 * k.val) = .f i k := by
  have hi : (0x100 + 0x20 * i.val + 4 * k.val - 0x100) / 0x20 = i.val := by omega
  have hk : (0x100 + 0x20 * i.val + 4 * k.val - 0x100) % 0x20 / 4 = k.val := by omega
  unfold slotAt
  repeat rw [if_neg (by omega)]
  rw [dif_pos (by omega)]
  simp [hi, hk]

theorem slotAt_ub (m : Fin 24) : slotAt (0x500 + 4 * m.val) = .ub m := by
  unfold slotAt
  repeat rw [if_neg (by omega)]
  rw [dif_neg (by omega), dif_neg (by omega), dif_pos (by omega)]
  simp

theorem slotAt_qx (n : QReg) (k : Fin 8) : slotAt (0x300 + 0x80 * n.val + 4 * k.val) = .qx n k := by
  have hn : (0x300 + 0x80 * n.val + 4 * k.val - 0x300) / 0x80 = n.val := by omega
  have hk : (0x300 + 0x80 * n.val + 4 * k.val - 0x300) % 0x80 / 4 = k.val := by omega
  unfold slotAt
  repeat rw [if_neg (by omega)]
  rw [dif_neg (by omega), dif_pos (by omega), dif_pos (by omega)]
  simp [hn, hk]

theorem slotAt_qy (n : QReg) (k : Fin 8) : slotAt (0x320 + 0x80 * n.val + 4 * k.val) = .qy n k := by
  have hn : (0x320 + 0x80 * n.val + 4 * k.val - 0x300) / 0x80 = n.val := by omega
  have hk : ((0x320 + 0x80 * n.val + 4 * k.val - 0x300) % 0x80 - 0x20) / 4 = k.val := by omega
  unfold slotAt
  repeat rw [if_neg (by omega)]
  rw [dif_neg (by omega), dif_pos (by omega), dif_neg (by omega), dif_pos (by omega)]
  simp [hn, hk]

theorem slotAt_qinf (n : QReg) : slotAt (0x340 + 0x80 * n.val) = .qinf n := by
  have hn : (0x340 + 0x80 * n.val - 0x300) / 0x80 = n.val := by omega
  unfold slotAt
  repeat rw [if_neg (by omega)]
  rw [dif_neg (by omega), dif_pos (by omega), dif_neg (by omega), dif_neg (by omega), if_pos (by omega)]
  simp [hn]

/-! ### What a write can do -/

/-- Everything a window write can do. -/
theorem State.memWrite_cases (s : State) (off : Nat) (v : Word) :
    s.memWrite off v = s ∨ s.memWrite off v = s.issue v ∨ s.memWrite off v = s.writeCtrl v ∨
      s.memWrite off v = s.writeStatus v ∨
      (s.busy = true ∧ s.memWrite off v = s.latch .busyWrite (BitVec.ofNat 32 off)) ∨
      (s.busy = false ∧
        (s.memWrite off v = s.setPred v ∨ (∃ i k, s.memWrite off v = s.setFWord i k v) ∨
          ∃ m, s.memWrite off v = s.setUbWord m v)) := by
  unfold State.memWrite State.operandWrite
  cases hb : s.busy <;> split <;> simp
  all_goals first
    | exact .inr (.inr (.inr (.inr (.inr (.inl ⟨_, _, rfl⟩)))))
    | exact .inr (.inr (.inr (.inr (.inr (.inr ⟨_, rfl⟩)))))

end Sys2Proof.Machine
end

