-- ==== Sys2Proof/Tests/Slice0.lean ====
section
/-! SUPPORT. Tests. Every expected value is one of spec/95_test_vectors.md (named T<n> there) or is written out from the
spec's tables; none is the model's own answer. -/

-- One theorem after the other: each holds the kernel for a while, and a hundred at once take a thread each.
set_option Elab.async false

namespace Sys2Proof.Tests

open Sys2Proof.Machine

/-! ### Well-formedness: the one check, and the terms it refuses (30_encoding.md R84) -/

theorem test_swu_same_destination_is_ill_formed : (Instr.swu 1 0 1).wellFormed = false := by decide

theorem test_swu_distinct_destinations_is_well_formed : (Instr.swu 1 1 2).wellFormed = true := by decide

/-! ### Decoding: one word for every constructor, its fields written out bit by bit from 30_encoding.md R83 -/

theorem test_decode_arith :
    (decode 0b00000000000000000000000000000000#32 = .ok .nop) ∧
    (decode 0b00000100010010001100000000000000#32 = .ok (.fadd 1 2 3)) ∧
    (decode 0b00001000010010001100000000000000#32 = .ok (.fsub 1 2 3)) ∧
    (decode 0b00001100010010000000000000000000#32 = .ok (.fneg 1 2)) ∧
    (decode 0b00010000010010001100000000000000#32 = .ok (.fmul 1 2 3)) ∧
    (decode 0b00010111110000000000000000000000#32 = .ok (.fsqr 15 0)) ∧
    (decode 0b00011000010010000000000000000000#32 = .ok (.finv 1 2)) ∧
    (decode 0b00011100010010001100000000000000#32 = .ok (.fdiv 1 2 3)) ∧
    (decode 0b00100000010010001100000000000000#32 = .ok (.fexp 1 2 3)) ∧
    (decode 0b00100100010010000000000000000000#32 = .ok (.fsqrt 1 2)) ∧
    (decode 0b00101000010010000000000000000000#32 = .ok (.fmov 1 2)) ∧
    (decode 0b00101100010000000000000101000000#32 = .ok (.fldk 1 .c1)) ∧
    (decode 0b00110000010000000000000001000000#32 = .ok (.fldu 1 1)) := by decide +kernel

theorem test_decode_predicate :
    (decode 0b01000001110010000000000000000000#32 = .ok (.fisz 7 2)) ∧
    (decode 0b01000100010010001100000000000000#32 = .ok (.feq 1 2 3)) ∧
    (decode 0b01001000010010000000000000000000#32 = .ok (.fissq 1 2)) ∧
    (decode 0b01001100010010000000000000000000#32 = .ok (.fsgn0 1 2)) ∧
    (decode 0b01010000010010001101010000000000#32 = .ok (.fcmov 1 2 3 5)) ∧
    (decode 0b01010100010010001100000000000000#32 = .ok (.pand 1 2 3)) ∧
    (decode 0b01011000010010001100000000000000#32 = .ok (.por 1 2 3)) ∧
    (decode 0b01011100010010001100000000000000#32 = .ok (.pxor 1 2 3)) ∧
    (decode 0b01100000010010001100000000000000#32 = .ok (.pxnor 1 2 3)) ∧
    (decode 0b01100100010010000000000000000000#32 = .ok (.pnot 1 2)) ∧
    (decode 0b01101000010000000000000001000000#32 = .ok (.pset 1 true)) := by decide +kernel

theorem test_decode_curve_and_system :
    (decode 0b10000000010010001100000000000000#32 = .ok (.swu 1 2 3)) ∧
    (decode 0b10000100010010001100000000000000#32 = .ok (.qlift 1 2 3)) ∧
    (decode 0b10001000110000000000000000000000#32 = .ok (.qinf 3)) ∧
    (decode 0b10001111110010000000000000000000#32 = .ok (.qgetx 15 2)) ∧
    (decode 0b10010000010010000000000000000000#32 = .ok (.qgety 1 2)) ∧
    (decode 0b10010100010010000000000000000000#32 = .ok (.qisinf 1 2)) ∧
    (decode 0b10011000010010001100000000000000#32 = .ok (.qadd 1 2 3)) ∧
    (decode 0b10011100010010000000000000000000#32 = .ok (.qdbl 1 2)) ∧
    (decode 0b10100000010000000000000000000000#32 = .ok (.h2c 1)) ∧
    (decode 0b11111100000000000000000000000000#32 = .ok .zero) := by decide +kernel

/-- Words of T25, T38, T71, T88, T120, T121, T122 and of programs P1 and P2. -/
theorem test_decode_vectors :
    (decode 0x20804000#32 = .ok (.fexp 2 0 1)) ∧ (decode 0x2C000240#32 = .ok (.fldk 0 .invExp)) ∧
    (decode 0x69C00040#32 = .ok (.pset 7 true)) ∧ (decode 0x84004000#32 = .ok (.qlift 0 0 1)) ∧
    (decode 0x10848000#32 = .ok (.fmul 2 1 2)) ∧ (decode 0x51118000#32 = .ok (.fcmov 4 4 6 0)) ∧
    (decode 0x8383C000#32 = .ok (.swu 14 0 15)) ∧ (decode 0x53371000#32 = .ok (.fcmov 12 13 12 4)) ∧
    (decode 0x98804000#32 = .ok (.qadd 2 0 1)) ∧ (decode 0x924C0000#32 = .ok (.qgety 9 3)) := by decide +kernel

/-- T124 to T137. -/
theorem test_decode_illegal :
    ([0x2C000280, 0x34000000, 0xF8000000, 0x04000001, 0x0C004000, 0x42000000, 0x99000000, 0x50002000, 0x68000080,
      0x30000080, 0x2C3C0000, 0x00000001, 0xFC000001, 0x80404000].map fun w : Word => decode w) =
    [.error .fieldOutOfRole, .error .reservedOpcode, .error .reservedOpcode, .error .reservedBits, .error .fieldOutOfRole,
      .error .fieldOutOfRole, .error .fieldOutOfRole, .error .fieldOutOfRole, .error .fieldOutOfRole,
      .error .fieldOutOfRole, .error .fieldOutOfRole, .error .reservedBits, .error .reservedBits,
      .error .swuSameDestination] := by decide +kernel

/-- T122, T123 through the encoder (30_encoding.md R87). -/
theorem test_encode_vectors :
    encode (.swu 14 0 15) = 0x8383C000#32 ∧ encode (.fldk 0 .invExp) = 0x2C000240#32 ∧ encode .zero = 0xFC000000#32 := by
  decide +kernel

/-! ### One command, issued and due -/

/-- The modulus of 00_scope.md R10. -/
abbrev P : Nat := 0xffffffff00000001000000000000000000000000ffffffffffffffffffffffff

/-- A state whose first field registers hold `a` and `b`, raw. -/
def st (a b : Nat) : State := (State.reset.setF 0 (BitVec.ofNat 256 a)).setF 1 (BitVec.ofNat 256 b)

/-- The state one step after the word `w` is in flight. -/
def after (s : State) (w : Nat) : Option State :=
  match step (s.withFetchWord 32 w) with
  | .next t => some t
  | _ => none

/-- A field register after one step. -/
def fAfter (s : State) (w : Nat) (i : FReg) : Option Nat := (after s w).map fun t => (t.getF i).toNat

/-- A predicate after one step. -/
def eAfter (s : State) (w : Nat) (i : EReg) : Option Bool := (after s w).map fun t => t.getE i

/-- A point register after one step. -/
def qAfter (s : State) (w : Nat) (i : QReg) : Option Point := (after s w).map fun t => t.getQ i

/-- `STATUS`, `ERRCODE` and `ERRINFO` after one step. -/
def statusAfter (s : State) (w : Nat) : Option (Word × Word × Word) :=
  (after s w).map fun t => (t.statusWord, t.errCode.code, t.errInfo)

/-- T1, T3. -/
theorem test_fadd_wraps : fAfter (st (P - 1) 2) 0x04804000 2 = some 1 := by decide +kernel
theorem test_fadd_reduces : fAfter (st (2 ^ 256 - 1) 0) 0x04804000 2 =
    some 0x00000000fffffffeffffffffffffffffffffffff000000000000000000000000 := by decide +kernel
/-- T5. -/
theorem test_fsub_borrows : fAfter (st 0 1) 0x08804000 2 = some (P - 1) := by decide +kernel
/-- T8, T9. -/
theorem test_fneg_unreduced_zero : fAfter (st P 0) 0x0C400000 1 = some 0 := by decide +kernel
theorem test_fneg_one : fAfter (st 1 0) 0x0C400000 1 = some (P - 1) := by decide +kernel
/-- T11, T43. -/
theorem test_fmul_full_product : fAfter (st (2 ^ 128) (2 ^ 128)) 0x10804000 2 =
    some 0x00000000fffffffeffffffffffffffffffffffff000000000000000000000001 := by decide +kernel
theorem test_fmul_in_place : fAfter (st (P - 1) 0) 0x10000000 0 = some 1 := by decide +kernel
/-- T13. -/
theorem test_fsqr : fAfter (st (2 ^ 128) 0) 0x14400000 1 =
    some 0x00000000fffffffeffffffffffffffffffffffff000000000000000000000001 := by decide +kernel
/-- T14, T17. -/
theorem test_finv_three : fAfter (st 3 0) 0x18400000 1 =
    some 0xaaaaaaaa00000000aaaaaaaaaaaaaaaaaaaaaaab555555555555555555555555 := by decide +kernel
theorem test_finv_unreduced_zero : fAfter (st P 0) 0x18400000 1 = some 0 := by decide +kernel
/-- T20, T21. -/
theorem test_fdiv : fAfter (st 5 7) 0x1C804000 2 =
    some 0xb6db6db624924925492492492492492492492493000000000000000000000000 := by decide +kernel
theorem test_fdiv_by_zero : fAfter (st 5 0) 0x1C804000 2 = some 0 := by decide +kernel
/-- T28, T29. -/
theorem test_fexp_raw_exponent : fAfter (st 5 P) 0x20804000 2 = some 5 := by decide +kernel
theorem test_fexp_all_ones : fAfter (st 2 (2 ^ 256 - 1)) 0x20804000 2 =
    some 0xa178d7c2dfe5ffcfdefd5c58df98e83742da58d3c41fac47e1c198bfdb3edbc7 := by decide +kernel
/-- T33, T34. -/
theorem test_fsqrt_square : fAfter (st 2 0) 0x24400000 1 =
    some 0xaf8bbdfe8cdd5577acbf345b543d28cf402f4e94d3865b97ea0787f2d3aa5d22 := by decide +kernel
theorem test_fsqrt_non_square : fAfter (st 3 0) 0x24400000 1 =
    some 0x9add512515b70d9ec471151c1dec46625cd18b37bde7ca7fb2c8b31d7033599d := by decide +kernel
/-- T24. -/
theorem test_fmov_reduces_in_place : fAfter (st P 0) 0x28000000 0 = some 0 := by decide +kernel
/-- 95_test_vectors.md section 2. -/
theorem test_fldk_derived_constants :
    fAfter State.reset 0x2C000140 0 = some 0x73976747e368dbf83bf93f1c7cdd823ecc5f023b441be5a76944bebf629b756e ∧
    fAfter State.reset 0x2C000180 0 = some 0xe666666580000000e666666666666666666666674ccccccccccccccccccccccc := by
  decide +kernel
theorem test_fldk_exponents :
    fAfter State.reset 0x2C0001C0 0 = some 0x7fffffff800000008000000000000000000000007fffffffffffffffffffffff ∧
    fAfter State.reset 0x2C000200 0 = some 0x3fffffffc0000000400000000000000000000000400000000000000000000000 ∧
    fAfter State.reset 0x2C000240 0 = some 0xffffffff00000001000000000000000000000000fffffffffffffffffffffffd := by
  decide +kernel

/-- The 24 words of `UB` of 95_test_vectors.md section 1. -/
def ubWords : List Word :=
  [0xe9db2339, 0xd6240aa7, 0xf935f4f5, 0xd4bfd002, 0x9892a0a7, 0x386395f6, 0xc80d1fbb, 0xddfbbfe7,
   0x911fb190, 0x1894d864, 0x8f91a178, 0x9e36ae4c, 0xc545d05b, 0xde0a591a, 0x05d71b00, 0x33db300b,
   0xfb8416ae, 0x59fe2202, 0x8dc0d7f5, 0xf6e87e2d, 0xc7dae2c6, 0x19882735, 0x16292a08, 0x99c26fab]

/-- The reset state with those words written through the window (20_memory.md R54). -/
def ubState : State := (ubWords.foldl (fun sw w => (sw.1.memWrite sw.2 w, sw.2 + 4)) (State.reset, 0x500)).1

/-- `u0` of 95_test_vectors.md section 1. -/
abbrev u0 : Nat := 0xad5342c66a6dd0ff080df1da0ea1c04b96e0330dd89406465eeba11582515009
/-- `q0`, as a coordinate pair. -/
abbrev q0x : Nat := 0xab640a12220d3ff283510ff3f4b1953d09fad35795140b1c5d64f313967934d5
abbrev q0y : Nat := 0xdccb558863804a881d4fff3455716c836cef230e5209594ddd33d85c565b19b1
/-- The base point of 95_test_vectors.md section 5. -/
abbrev gx : Nat := 0x6b17d1f2e12c4247f8bce6e563a440f277037d812deb33a0f4a13945d898c296
abbrev gy : Nat := 0x4fe342e2fe1a7f9b8ee7eb4a7c0f9e162bce33576b315ececbb6406837bf51f5

/-- T39, T40. -/
theorem test_fldu_half_0 : fAfter ubState 0x30000000 0 = some u0 := by decide +kernel
theorem test_fldu_half_1 : fAfter ubState 0x30000040 0 =
    some 0x8c0f1d43204bd6f6ea70ae8013070a1518b43873bcd850aafa0a9e220e2eea5a := by decide +kernel

/-- T51, T52. -/
theorem test_fisz_unreduced_zero : eAfter (st P 0) 0x40000000 0 = some true := by decide +kernel
theorem test_fisz_one : eAfter (st 1 0) 0x40000000 0 = some false := by decide +kernel
/-- T53, T54. -/
theorem test_feq_unreduced : eAfter (st 0 P) 0x44404000 1 = some true := by decide +kernel
theorem test_feq_unequal : eAfter (st 5 6) 0x44404000 1 = some false := by decide +kernel
/-- T57, T58. -/
theorem test_fissq_square : eAfter (st 2 0) 0x48000000 0 = some true := by decide +kernel
theorem test_fissq_non_square : eAfter (st 3 0) 0x48000000 0 = some false := by decide +kernel
/-- T63, T64. -/
theorem test_fsgn0_even : eAfter (st (P - 1) 0) 0x4C000000 0 = some false := by decide +kernel
theorem test_fsgn0_of_reduced_value : eAfter (st (P + 1) 0) 0x4C000000 0 = some true := by decide +kernel
/-- T66, T68. -/
theorem test_fcmov_true : fAfter ((st 7 9).setE 3 true) 0x50804C00 2 = some 9 := by decide +kernel
theorem test_fcmov_false_reduces : fAfter (st (P + 1) 9) 0x50004000 0 = some 1 := by decide +kernel

/-- A state with `E0` and `E1` set so. -/
def ep (a b : Bool) : State := (State.reset.setE 0 a).setE 1 b

/-- The results of a two-source predicate command on the four input pairs of T69. -/
def truthTable (w : Nat) : List (Option Bool) :=
  [eAfter (ep false false) w 2, eAfter (ep false true) w 2, eAfter (ep true false) w 2, eAfter (ep true true) w 2]

/-- T69. -/
theorem test_pand : truthTable 0x54804000 = [some false, some false, some false, some true] := by decide +kernel
theorem test_por : truthTable 0x58804000 = [some false, some true, some true, some true] := by decide +kernel
theorem test_pxor : truthTable 0x5C804000 = [some false, some true, some true, some false] := by decide +kernel
theorem test_pxnor : truthTable 0x60804000 = [some true, some false, some false, some true] := by decide +kernel
/-- T70. -/
theorem test_pnot : eAfter (ep false false) 0x64400000 1 = some true ∧ eAfter (ep true false) 0x64400000 1 = some false := by
  decide +kernel
/-- T71. -/
theorem test_pset_reads_back : (after State.reset 0x69C00040).map State.predWord = some 0x80#32 := by decide +kernel

/-- T80, T83. -/
theorem test_swu_vector :
    (after (st u0 0) 0x80408000).map (fun t => ((t.getF 1).toNat, (t.getF 2).toNat)) = some (q0x, q0y) := by decide +kernel
theorem test_swu_exceptional_input :
    (after (st 0x95d527d249c8dc5cadbf4c70bb59aaab72c14fffbad5622bd147b86a639ec6d9 0) 0x80408000).map
        (fun t => ((t.getF 1).toNat, (t.getF 2).toNat)) =
      some (0xa528bd8696bdaf996c65b982d94959d3146fe6a020693090bdba13132375f224,
        0xf1a048c1e986e31da704a524d2cc9975c4dbf661272bfe0997a1f166b04b28a9) := by decide +kernel

/-- T88, T90. -/
theorem test_qlift_curve_point : qAfter (st q0x q0y) 0x84004000 0 = some (.affine q0x q0y) := by decide +kernel
theorem test_qlift_rejects_unreduced :
    statusAfter (st P 0x66485c780e2f83d72433bd5d84a06bb6541c2af31dae871728bf856a174f93f4) 0x84004000 =
      some (0x6#32, 2#32, 0x84004000#32) := by decide +kernel

/-- A state with `Q0` and `Q1` set so. -/
def qp (A B : Point) : State := (State.reset.setQ 0 A).setQ 1 B

/-- T93. -/
theorem test_qinf : qAfter (State.reset.setQ 2 (.affine gx gy)) 0x88800000 2 = some .identity := by decide +kernel
/-- 43_curve.md R164 and R165, on a point with different coordinates. -/
theorem test_qgetx : fAfter (qp .identity (.affine gx gy)) 0x8C040000 0 = some gx := by decide +kernel
theorem test_qgety : fAfter (qp .identity (.affine gx gy)) 0x90440000 1 = some gy := by decide +kernel
/-- T95. -/
theorem test_qisinf : eAfter State.reset 0x94000000 0 = some true := by decide +kernel
/-- T96, T97. -/
theorem test_qadd_sum : qAfter (qp (.affine q0x q0y)
    (.affine 0x51cce63c50d972a6e51c61334f0f4875c9ac1cd2d3238412f84e31da7d980ef5
      0xb45d1a36d00ad90e5ec7840a60a4de411917fbe7c82c3949a6e699e5a1b66aac)) 0x98804000 2 =
    some (.affine 0x2c15230b26dbc6fc9a37051158c95b79656e17a1a920b11394ca91c44247d3e4
      0x8a7a74985cc5c776cdfe4b1f19884970453912e9d31528c060be9ab5c43e8415) := by decide +kernel
theorem test_qadd_opposite : qAfter (qp (.affine gx gy) (.affine gx (P - gy))) 0x98804000 2 = some .identity := by
  decide +kernel
/-- T101, T102. -/
theorem test_qdbl_base_point : qAfter (qp (.affine gx gy) .identity) 0x9C400000 1 =
    some (.affine 0x7cf27b188d034f7e8a52380304b51ac3c08969e277f21b35a60b48fc47669978
      0x07775510db8ed040293d9ac69f7430dbba7dade63ce982299e04b79d227873d1) := by decide +kernel
theorem test_qdbl_identity : qAfter (qp .identity (.affine gx gy)) 0x9C400000 1 = some .identity := by decide +kernel
/-- T103, T104. -/
theorem test_h2c_known_answer : qAfter ubState 0xA0000000 0 =
    some (.affine 0x2c15230b26dbc6fc9a37051158c95b79656e17a1a920b11394ca91c44247d3e4
      0x8a7a74985cc5c776cdfe4b1f19884970453912e9d31528c060be9ab5c43e8415) := by decide +kernel
theorem test_h2c_equal_halves : qAfter State.reset 0xA0000000 0 =
    some (.affine 0xb2e54cbf5f47349af8a9d4f03e0a3fead0898607930833c7249bd33c38c7f942
      0xe3ecfabfcf019520d9cffd5143d3bf71b9d4f5aae780339adcc957d110c9a141) := by decide +kernel

/-- T110, T111. -/
theorem test_nop_sets_done : statusAfter State.reset 0x00000000 = some (0x2#32, 0#32, 0#32) := by decide +kernel
theorem test_zero_wipes :
    (after (((ubState.setF 3 5).setE 2 true).setQ 1 (.affine gx gy)) 0xFC000000).map
        (fun t => (t.getF 3, t.getE 2, t.getQ 1, t.ub[0], t.lastCmd)) =
      some (0#256, false, .identity, 0#8, 0xFC000000#32) := by decide +kernel

/-! ### The window, errors and reset (95_test_vectors.md section 8), on offsets of the window -/

/-- The answer to a read of one offset. -/
def rd (s : State) (off : Nat) : Option Word := (s.memRead off).rdata

/-- T150, T151. -/
theorem test_reset_reads :
    [0x000, 0x004, 0x008, 0x00C, 0x010, 0x014, 0x018, 0x340, 0x300].map (rd State.reset) =
      [some 0x53575531#32, some 0#32, some 0#32, some 0#32, some 0#32, some 0#32, some 0#32, some 1#32, some 0#32] := by
  decide +kernel
/-- T154, T155. -/
theorem test_write_top_word_of_f0 : (State.reset.memWrite 0x11C 0x80000000#32).raw 0 = 2 ^ 255 := by decide +kernel
theorem test_write_first_ub_word :
    (State.reset.memWrite 0x500 0xE9DB2339#32).ub.toList.take 4 = [0xE9#8, 0xDB#8, 0x23#8, 0x39#8] := by decide +kernel
/-- T156, T158, T159. -/
theorem test_write_q_ignored : State.reset.memWrite 0x300 0x12345678#32 = State.reset := by decide +kernel
theorem test_pred_write_reads_back : rd (State.reset.memWrite 0x018 0xFFFFFF05#32) 0x018 = some 0x5#32 := by decide +kernel
theorem test_ctrl_write_reads_back : rd (State.reset.memWrite 0x004 0xFFFFFFFD#32) 0x004 = some 1#32 := by decide +kernel
/-- T161, T162, T163. -/
theorem test_illegal_word :
    let s := State.reset.memWrite 0x00C 0x34000000#32
    (rd s 0x008, rd s 0x010, rd s 0x014, rd s 0x00C) = (some 6#32, some 1#32, some 0x34000000#32, some 0#32) := by
  decide +kernel
theorem test_dropped_while_error :
    (State.reset.memWrite 0x00C 0x34000000#32).memWrite 0x00C 0#32 = State.reset.memWrite 0x00C 0x34000000#32 := by
  decide +kernel
theorem test_clear_error :
    let s := (State.reset.memWrite 0x00C 0x34000000#32).memWrite 0x008 4#32
    (rd s 0x008, rd s 0x010, rd s 0x014) = (some 2#32, some 0#32, some 0#32) := by decide +kernel
/-- T165, T167: an overrun, then an operand write, with `FINV f2, f1` in flight. -/
theorem test_overrun_is_kept :
    let s := (((st 0 3).inFlight 0x18840000#32).memWrite 0x00C 0x10C84000#32).memWrite 0x124 7#32
    (rd s 0x008, rd s 0x010, rd s 0x014, s.raw 1) = (some 5#32, some 3#32, some 0x10C84000#32, 3) := by decide +kernel
/-- T166. -/
theorem test_busy_write :
    let s := ((st 0 3).inFlight 0x18840000#32).memWrite 0x124 7#32
    (rd s 0x010, rd s 0x014, s.raw 1) = (some 4#32, some 0x124#32, 3) := by decide +kernel
/-- T170. -/
theorem test_soft_reset_while_busy :
    (((st 0 3).setIrqEn true).inFlight 0x18840000#32).memWrite 0x004 3#32 = State.reset.withSchedule [.cycle] := by
  decide +kernel
/-- The halves have the length of the configuration (00_scope.md R10, R12). -/
theorem test_half_length : 2 * Config.curve.L = 96 := by decide +kernel

end Sys2Proof.Tests
end

