-- ==== Sys2Proof/Tests/Witness.lean ====
section
/-! SUPPORT. For every statement of Certificates/Slice0/Obligations.lean that has hypotheses, concrete states and operands
that meet them, clause by clause, at the ends of each clause's range: `witness_<the statement's name>`. -/

-- One theorem after the other: each holds the kernel for a while, and a hundred at once take a thread each.
set_option Elab.async false

namespace Sys2Proof.Tests

open Sys2Proof Sys2Proof.Machine Sys2Proof.Safety

/-! ### The states -/

/-- A legal command in flight: `FADD f2, f0, f1`, due at the next cycle, with an empty schedule. -/
def busyState : State := { State.reset with busy := true, pending := 0x04804000#32, lastCmd := 0x04804000#32 }

/-- An error latched. -/
def errState : State := { State.reset with err := true, errCode := .illegal, errInfo := 0x34000000#32, done := true }

/-- `s` with a host access or another event next. -/
def nextIs (s : State) (e : Event) : State := { s with schedule := [e] }

theorem busyState_decodes : decode busyState.pending = .ok (.fadd 2 0 1) := by decide +kernel

theorem errState_controlOk : ControlOk errState where
  pendingLegal h := by cases h
  pendingLast h := by cases h
  cntBound h := by cases h
  cntIdle _ := rfl
  latchClear h := by cases h
  latchSet _ := by decide

theorem busyState_controlOk : ControlOk busyState where
  pendingLegal _ := by decide +kernel
  pendingLast _ := rfl
  cntBound _ := Nat.zero_le _
  cntIdle h := by cases h
  latchClear _ := ⟨rfl, rfl⟩
  latchSet h := by cases h

/-- Every point register of `s` that `State.reset` did not set holds the base point. -/
def basePoint : Point := .affine gx gy

theorem basePoint_ok : PointOk basePoint := .inr ⟨rfl, by decide +kernel, by decide +kernel, by decide +kernel⟩

theorem identity_ok : PointOk Point.identity := .inl rfl

theorem reset_pointsOk : PointsOk State.reset := fun n => by rw [State.getQ_of_replicate rfl]; exact identity_ok

theorem base_pointsOk : PointsOk (State.reset.setQ 3 basePoint) := by
  intro n
  by_cases h : n = 3
  · rw [h, State.getQ_setQ_self]; exact basePoint_ok
  · rw [State.getQ_setQ_of_ne _ h]; exact reset_pointsOk n

/-! ### Reset and the control registers -/

theorem witness_ResetPutsEveryRegisterAtItsValue : legal 0x00000000#32 = true ∧ legal 0xFC000000#32 = true := by
  decide +kernel

theorem witness_SoftResetIsTheFullReset : (0x2#32).getLsbD 1 = true ∧ (0xFFFFFFFF#32).getLsbD 1 = true := by decide

theorem witness_ReadOnlyRegistersReadTheirValues :
    State.reset.errCode = .none ∧ errState.errCode = .illegal ∧ { errState with errCode := .decode }.errCode = .decode ∧
      { errState with errCode := .overrun }.errCode = .overrun ∧
      { errState with errCode := .busyWrite }.errCode = .busyWrite := ⟨rfl, rfl, rfl, rfl, rfl⟩

theorem witness_CtrlWriteSetsEnableOrResets :
    (0x3#32).getLsbD 1 = true ∧ (0xFFFFFFFD#32).getLsbD 1 = false ∧ (State.reset.setIrqEn true).irqEn = true ∧
      State.reset.irqEn = false := by decide

theorem witness_StatusReadsItsBitsAndWritesClear :
    (0x4#32).getLsbD 2 = true ∧ (0xFFFFFFFB#32).getLsbD 2 = false ∧ 3 ≤ 3 := by decide

theorem witness_PredReadsAndWritesThePredicates : State.reset.busy = false ∧ busyState.busy = true ∧ 8 ≤ 8 := by decide

/-! ### Issue, errors, interrupt -/

theorem witness_IssueIsDecidedInOrder :
    busyState.busy = true ∧ (errState.busy = false ∧ errState.err = true) ∧
      (State.reset.busy = false ∧ State.reset.err = false ∧ legal 0x34000000#32 = false) ∧
      (State.reset.busy = false ∧ State.reset.err = false ∧ legal 0x10848000#32 = true) := by decide +kernel

theorem witness_LatchKeepsTheFirstError :
    (0x4#32).getLsbD 2 = true ∧ errState.err = true ∧ exec .nop errState = .next errState ∧
      engineCycle errState = .next errState := ⟨by decide, rfl, rfl, rfl⟩

/-- The writes that keep a latched error: at the ends of the window, and of `STATUS` and `CTRL` without the clearing bit. -/
theorem witness_LatchKeepsTheFirstError_writes :
    errState.err = true ∧ ∀ off ∈ [0x000, 0x004, 0x008, 0xFFC],
      off % 4 = 0 ∧ (off = 0x008 → (0xFFFFFFF9#32).getLsbD 2 = false) ∧ (off = 0x004 → (0xFFFFFFF9#32).getLsbD 1 = false) := by
  decide

/-- The interrupt line up, and the next event a hardware reset. -/
def irqState : State := { State.reset with irqEn := true, done := true }

theorem witness_InterruptIsHeldUntilTheHostClearsIt_reset :
    (nextIs irqState .hardReset).irq = true ∧ step (nextIs irqState .hardReset) = .next State.reset ∧
      State.reset.irq = false := ⟨rfl, rfl, rfl⟩

theorem inWindow_base {off : Nat} (h : off < 4096) : inWindow (Config.base + off) = true := by simp [inWindow]; omega

theorem step_write (s : State) {off : Nat} (h : off < 4096) (h4 : off % 4 = 0) (v : Word) :
    step (nextIs s (.access (.write (Config.base + off) 4 v))) = .next ((s.withSchedule []).memWrite off v) := by
  have e : Config.base + off - Config.base = off := by omega
  simp [step, nextIs, happen, hostAccess, inWindow_base h, e, accepted, h4, State.withSchedule]

theorem step_read (s : State) {off : Nat} (h : off < 4096) (h4 : off % 4 = 0) :
    step (nextIs s (.access (.read (Config.base + off) 4))) = .next ((s.withSchedule []).memRead off) := by
  have e : Config.base + off - Config.base = off := by omega
  simp [step, nextIs, happen, hostAccess, inWindow_base h, e, accepted, h4, State.withSchedule]

/-- A run begins with its first step. -/
theorem run_next {s t : State} (n : Nat) (h : step s = .next t) : core.run (n + 1) s = core.run n t := by
  have e := Host.Core.run.eq_2 core s n
  rw [show core.step s = .next t from h] at e
  exact e

theorem witness_InterruptIsHeldUntilTheHostClearsIt_status :
    (nextIs irqState (.access (.write (Config.base + 0x008) 4 2#32))).irq = true ∧
      step (nextIs irqState (.access (.write (Config.base + 0x008) 4 2#32))) = .next (State.reset.setIrqEn true) ∧
      (State.reset.setIrqEn true).irq = false := by
  refine ⟨rfl, ?_, rfl⟩
  rw [step_write _ (by decide) (by decide)]
  congr 1

theorem witness_InterruptIsHeldUntilTheHostClearsIt_ctrl :
    (nextIs irqState (.access (.write (Config.base + 0x004) 4 0#32))).irq = true ∧
      step (nextIs irqState (.access (.write (Config.base + 0x004) 4 0#32))) =
        .next { State.reset with done := true } ∧
      { State.reset with done := true }.irq = false := by
  refine ⟨rfl, ?_, rfl⟩
  rw [step_write _ (by decide) (by decide)]
  congr 1

/-! ### The window -/

theorem witness_FieldRegistersReadAndWriteByWords : State.reset.busy = false ∧ (0 : Fin 8) ≠ 7 := by decide

theorem witness_UniformBytesReadAndWriteByWords :
    State.reset.busy = false ∧ (91 : Fin 96).val / 4 ≠ (23 : Fin 24).val ∧ (4 : Fin 96).val / 4 ≠ (0 : Fin 24).val := by
  decide

theorem witness_PointRegistersAreReadOnly :
    (0x300 ≤ 0x300 ∧ 0x300 < 0x500) ∧ (0x300 ≤ 0x4FC ∧ 0x4FC < 0x500) ∧ State.reset.busy = false ∧
      (0x44 ≤ 0x44 ∧ 0x44 < 0x80) ∧ (0x44 ≤ 0x7C ∧ 0x7C < 0x80) := by decide

theorem witness_ReservedOffsetsReadZeroAndIgnoreWrites :
    (0x01C ≤ 0x01C ∧ 0x01C < 0x100) ∧ (0x01C ≤ 0x0FC ∧ 0x0FC < 0x100) ∧ (0x560 ≤ 0x560 ∧ 0x560 < 0x1000) ∧
      (0x560 ≤ 0xFFC ∧ 0xFFC < 0x1000) := by decide

theorem witness_OnlyAlignedWordAccessesAreAccepted :
    (0 < 4096 ∧ 2 ≠ 4) ∧ (4095 < 4096 ∧ 4095 % 4 ≠ 0) ∧ (0 < 4096 ∧ 0 % 4 = 0) ∧ (4092 < 4096 ∧ 4092 % 4 = 0) := by decide

/-- The ends of the ranges of operand state that the host may write while idle. -/
theorem witness_WritesWhileBusy_operands :
    busyState.busy = true ∧ ∀ off ∈ [0x100, 0x2FC, 0x500, 0x55C, 0x018],
      off % 4 = 0 ∧ ((0x100 ≤ off ∧ off < 0x300) ∨ (0x500 ≤ off ∧ off < 0x560) ∨ off = 0x018) := by decide

theorem witness_WritesWhileBusy_registers :
    busyState.busy = true ∧ (0x00C % 4 = 0) ∧ (0x004 % 4 = 0 ∧ (0x2#32).getLsbD 1 = true) ∧
      (0x004 % 4 = 0 ∧ (0x1#32).getLsbD 1 = false) ∧ (0x008 % 4 = 0 ∧ (0x4#32).getLsbD 2 = true) ∧
      (0x008 % 4 = 0 ∧ (0x2#32).getLsbD 2 = false) := by decide

theorem witness_WritesWhileBusy_ignored :
    busyState.busy = true ∧ ∀ off ∈ [0x000, 0x010, 0x014, 0x01C, 0x0FC, 0x300, 0x4FC, 0x560, 0xFFC],
      off % 4 = 0 ∧ (off = 0x000 ∨ off = 0x010 ∨ off = 0x014 ∨ (0x01C ≤ off ∧ off < 0x100) ∨ (0x300 ≤ off ∧ off < 0x500) ∨
        (0x560 ≤ off ∧ off < 0x1000)) := by decide

theorem witness_ReadsWhileBusy_unspecified :
    busyState.busy = true ∧ ∀ off ∈ [0x100, 0x2FC, 0x500, 0x55C, 0x018, 0x300, 0x340, 0x480, 0x4C0],
      off % 4 = 0 ∧ ((0x100 ≤ off ∧ off < 0x300) ∨ (0x500 ≤ off ∧ off < 0x560) ∨ off = 0x018 ∨
        (0x300 ≤ off ∧ off < 0x500 ∧ (off - 0x300) % 0x80 ≤ 0x40)) := by decide

theorem witness_ReadsWhileBusy_defined :
    busyState.busy = true ∧ 0x008 % 4 = 0 ∧ ∀ off ∈ [0x000, 0x004, 0x00C, 0x014, 0x01C, 0x0FC, 0x560, 0xFFC],
      off % 4 = 0 ∧ (off < 0x018 ∧ off ≠ 0x008 ∨ (0x01C ≤ off ∧ off < 0x100) ∨ (0x560 ≤ off ∧ off < 0x1000)) := by decide

/-- The ends of the reserved offsets inside the `Q` range, and `STATUS` bit 3. -/
theorem witness_ReadsWhileBusy_reserved :
    busyState.busy = true ∧ 3 ≤ 3 ∧ ∀ off ∈ [0x344, 0x37C, 0x4C4, 0x4FC],
      off % 4 = 0 ∧ 0x300 ≤ off ∧ off < 0x500 ∧ 0x40 < (off - 0x300) % 0x80 := by decide

/-- An engine cycle, a read of another offset, and a cycle after the schedule has run out, between two reads. -/
theorem witness_ReadsHaveNoSideEffect :
    let s : State := { State.reset with schedule := [.cycle, .access (.read (Config.base + 0xFFC) 4)] }
    s.busy = false ∧ (∀ e ∈ s.schedule.take 3, e = .cycle ∨ ∃ addr bytes, e = .access (.read addr bytes)) ∧
      ∃ t, core.run 3 (s.memRead 0x100) = .next t := by
  refine ⟨rfl, ?_, State.reset.answer 0#32, ?_⟩
  · intro e he
    simp only [List.take, List.mem_cons, List.not_mem_nil, or_false] at he
    exact he.imp id fun h => ⟨_, _, h⟩
  · let u := nextIs (State.reset.answer 0#32) (.access (.read (Config.base + 0xFFC) 4))
    rw [run_next 2 (t := u) rfl, run_next 1 (step_read _ (by decide) (by decide))]
    rfl

theorem busyState_completes : ∃ t, complete busyState = .next t := by
  obtain ⟨t, ht⟩ := exec_next (.fadd 2 0 1) busyState
  exact ⟨_, by rw [complete_of_decode busyState_decodes, completeWith_eq_next ht]⟩

theorem witness_AccessesWhileBusyLeaveTheCommandInFlight :
    busyState.busy = true ∧ (∃ t, complete busyState = .next t) ∧ slotAt 0x100 ≠ .ctrl ∧ slotAt 0x004 = .ctrl ∧
      (0x1#32).getLsbD 1 = false := ⟨rfl, busyState_completes, by decide, rfl, by decide⟩

/-! ### The step -/

theorem witness_StepRunsTheDecodedCommand_quiet :
    busyState.busy = true ∧ busyState.cnt = 0 ∧ decode busyState.pending = .ok (.fadd 2 0 1) ∧ busyState.schedule = [] :=
  ⟨rfl, rfl, busyState_decodes, rfl⟩

/-- An idle engine, and one that counts its last cycle, with nothing scheduled and with a cycle next. -/
theorem witness_StepRunsTheDecodedCommand_not_due :
    (errState.schedule = [] ∧ errState.busy = false) ∧
      ((nextIs errState .cycle).schedule = .cycle :: [] ∧ (nextIs errState .cycle).busy = false) ∧
      (nextIs { busyState with cnt := 1 } .cycle).schedule = .cycle :: [] ∧
      (nextIs { busyState with cnt := 1 } .cycle).busy = true ∧ 0 < (nextIs { busyState with cnt := 1 } .cycle).cnt :=
  ⟨⟨rfl, rfl⟩, ⟨rfl, rfl⟩, rfl, rfl, Nat.one_pos⟩

theorem witness_StepRunsTheDecodedCommand_scheduled :
    let s := State.reset.withFetchWord 32 0x04804000
    s.busy = true ∧ s.cnt = 0 ∧ decode s.pending = .ok (.fadd 2 0 1) ∧ s.schedule = .cycle :: [] := by
  exact ⟨rfl, rfl, by decide +kernel, rfl⟩

theorem witness_StepPerformsTheScheduledAccess :
    (0xFFC < 4096 ∧ 0xFFC % 4 = 0) ∧ (0x000 < 4096 ∧ 0x000 % 4 = 0) ∧
      (nextIs State.reset (.access (.read (Config.base + 0xFFC) 4))).schedule =
        .access (.read (Config.base + 0xFFC) 4) :: [] ∧
      (nextIs State.reset (.access (.write (Config.base + 0x000) 4 1#32))).schedule =
        .access (.write (Config.base + 0x000) 4 1#32) :: [] ∧
      (nextIs busyState .hardReset).schedule = .hardReset :: [] := ⟨by decide, by decide, rfl, rfl, rfl⟩

/-! ### Field arithmetic -/

theorem witness_FnegWritesTheNegationModP : (st P 0).fv 0 = 0 ∧ (st 1 0).fv 0 ≠ 0 ∧ (st (P - 1) 0).fv 0 ≠ 0 := by
  decide +kernel

theorem witness_FinvWritesTheInverseOrZero :
    (st 0 0).fv 0 = 0 ∧ (st 1 0).fv 0 ≠ 0 ∧ (1 ≤ 1 ∧ 1 < Config.curve.p ∧ 1 * (st 1 0).fv 0 % Config.curve.p = 1) ∧
      (st (P - 1) 0).fv 0 ≠ 0 ∧
      (1 ≤ P - 1 ∧ P - 1 < Config.curve.p ∧ (P - 1) * (st (P - 1) 0).fv 0 % Config.curve.p = 1) := by decide +kernel

theorem witness_FdivMultipliesByTheInverse :
    (st 5 P).fv 1 = 0 ∧ (st 5 (P - 1)).fv 1 ≠ 0 ∧ (st 1 0).fv 0 ≠ 0 ∧ (0 : FReg) = 0 := by decide +kernel

theorem witness_FmovWritesTheReducedValue :
    ((st (P - 1) 0).getF 0).toNat < Config.curve.p ∧ Config.curve.p ≤ ((st P 0).getF 0).toNat ∧
      Config.curve.p ≤ ((st (2 ^ 256 - 1) 0).getF 0).toNat := by decide +kernel

theorem witness_FexpRaisesToTheRawExponent :
    (st 0 0).getF 1 = 0#256 ∧ ((st P 1).fv 0 = 0 ∧ (st P 1).getF 1 ≠ 0#256) ∧
      ((st 2 (P - 1)).fv 0 ≠ 0 ∧ ((st 2 (P - 1)).getF 1).toNat = Config.curve.p - 1) := by decide +kernel

theorem witness_FsqrtWritesTheRootFormula_square :
    (∃ r, r * r % Config.curve.p = (st 0 0).fv 0) ∧ ∃ r, r * r % Config.curve.p = (st 4 0).fv 0 :=
  ⟨⟨0, by decide +kernel⟩, ⟨2, by decide +kernel⟩⟩

/-- `p − 1` is no square (42_predicate_select.md R132, corner cases). -/
theorem witness_FsqrtWritesTheRootFormula_non_square : ¬ ∃ r, r * r % Config.curve.p = (st (P - 1) 0).fv 0 := by
  rintro ⟨r, hr⟩
  have : Fact Config.curve.p.Prime := ⟨curve_p_prime⟩
  have hz : r * r % Config.curve.p + 1 = Config.curve.p := by rw [hr]; decide +kernel
  have hq : (r : ZMod Config.curve.p) ^ 2 = -1 := by
    have h := congrArg (Nat.cast : Nat → ZMod Config.curve.p) hz
    rw [Nat.cast_add, ZMod.natCast_mod, ZMod.natCast_self] at h
    push_cast at h
    rw [pow_two]
    exact eq_neg_of_add_eq_zero_left h
  exact ZMod.mod_four_ne_three_of_sq_eq_neg_one hq (by decide +kernel)

theorem witness_FldkLoadsTheConstant : 10 ≤ (10#4).toNat ∧ 10 ≤ (15#4).toNat := by decide

/-! ### Tests, predicates, select -/

theorem witness_FcmovSelectsByThePredicate : (State.reset.setE 7 true).getE 7 = true ∧ State.reset.getE 0 = false := by
  decide

theorem witness_PredicateLogicWritesOnePredicate : 2 ≤ (2#4).toNat ∧ 2 ≤ (15#4).toNat := by decide

/-! ### Curve -/

theorem witness_SwuFollowsTheSixteenSteps : (15 : FReg) = 15 ∧ (14 : FReg) ≠ 15 := by decide

theorem witness_QliftLiftsOrRaisesDecode_point :
    let s := st 0 0x66485c780e2f83d72433bd5d84a06bb6541c2af31dae871728bf856a174f93f4
    (s.getF 0).toNat < Config.curve.p ∧ (s.getF 1).toNat < Config.curve.p ∧
      (s.getF 1).toNat ^ 2 % Config.curve.p =
        ((s.getF 0).toNat ^ 3 + Config.curve.A * (s.getF 0).toNat + Config.curve.B) % Config.curve.p := by
  decide +kernel

theorem witness_QliftLiftsOrRaisesDecode_errors :
    Config.curve.p ≤ ((st P 0).getF 0).toNat ∧ Config.curve.p ≤ ((st 0 P).getF 1).toNat ∧
      ((st 0 0).getF 1).toNat ^ 2 % Config.curve.p ≠
        (((st 0 0).getF 0).toNat ^ 3 + Config.curve.A * ((st 0 0).getF 0).toNat + Config.curve.B) % Config.curve.p := by
  decide +kernel

theorem witness_QaddAndQdblFollowTheAdditionLaw : PointsOk State.reset ∧ PointsOk (State.reset.setQ 3 basePoint) :=
  ⟨reset_pointsOk, base_pointsOk⟩

/-- The five cases of the addition law, and the three of the doubling. -/
theorem witness_QaddAndQdblFollowTheAdditionLaw_cases :
    Point.identity.inf = true ∧ basePoint.inf = false ∧
      (basePoint.x = (Point.affine gx (P - gy)).x ∧
        (basePoint.y.toNat + (Point.affine gx (P - gy)).y.toNat) % Config.curve.p = 0) ∧
      (basePoint.y.toNat + basePoint.y.toNat) % Config.curve.p ≠ 0 ∧ basePoint.x ≠ (Point.affine q0x q0y).x ∧
      basePoint.y.toNat ≠ 0 ∧ (Point.affine 1 0).y.toNat = 0 := by decide +kernel

/-- The clause of a failed check has no witness on this instance: statement TheMapAlwaysLandsOnTheCurve says so. -/
theorem witness_HashToCurveMapsChecksAndAdds :
    onCurve Config.curve (swuMap Config.curve (State.reset.half 0)).1 (swuMap Config.curve (State.reset.half 0)).2 = true ∧
      onCurve Config.curve (swuMap Config.curve (ubState.half 1)).1 (swuMap Config.curve (ubState.half 1)).2 = true := by
  decide +kernel

/-! ### System -/

theorem witness_NopOnlyCompletes :
    (0x00000001#32 ≠ 0#32 ∧ (0x00000001#32).extractLsb' 26 6 = 0x00#6) ∧
      (0x03FFFFFF#32 ≠ 0#32 ∧ (0x03FFFFFF#32).extractLsb' 26 6 = 0x00#6) ∧
      (State.reset.busy = false ∧ State.reset.err = false) ∧ State.reset.pending = 0x00000000#32 := by decide

theorem witness_ZeroWipesAllOperandState :
    (0xFC000001#32 ≠ 0xFC000000#32 ∧ (0xFC000001#32).extractLsb' 26 6 = 0x3f#6) ∧
      (0xFFFFFFFF#32 ≠ 0xFC000000#32 ∧ (0xFFFFFFFF#32).extractLsb' 26 6 = 0x3f#6) ∧
      (State.reset.busy = false ∧ State.reset.err = false) ∧ (errState.busy = false ∧ errState.err = true) := by decide

/-! ### Encoding -/

theorem witness_DecodeOfEncode : (Instr.swu 14 0 15).wellFormed = true ∧ (Instr.zero).wellFormed = true := by decide

theorem witness_EncodeOfDecode : decode 0x8383C000#32 = .ok (.swu 14 0 15) := by decide +kernel

theorem witness_LegalWordsAreThoseOfTheOpcodeMap :
    0x8383C000#32 &&& Opcode.swu.maskBits = Opcode.swu.matchBits := by decide +kernel

/-- The ends of each range of 30_encoding.md R85, and one word for every kind of field out of range. -/
theorem witness_ReservedEncodingsAreIllegal :
    (0x0d ≤ ((0x34000000#32).extractLsb' 26 6).toNat ∧ ((0x34000000#32).extractLsb' 26 6).toNat ≤ 0x0f) ∧
    (0x0d ≤ ((0x3C000000#32).extractLsb' 26 6).toNat ∧ ((0x3C000000#32).extractLsb' 26 6).toNat ≤ 0x0f) ∧
    (0x1b ≤ ((0x6C000000#32).extractLsb' 26 6).toNat ∧ ((0x6C000000#32).extractLsb' 26 6).toNat ≤ 0x1f) ∧
    (0x1b ≤ ((0x7C000000#32).extractLsb' 26 6).toNat ∧ ((0x7C000000#32).extractLsb' 26 6).toNat ≤ 0x1f) ∧
    (0x29 ≤ ((0xA4000000#32).extractLsb' 26 6).toNat ∧ ((0xA4000000#32).extractLsb' 26 6).toNat ≤ 0x3e) ∧
    (0x29 ≤ ((0xF8000000#32).extractLsb' 26 6).toNat ∧ ((0xF8000000#32).extractLsb' 26 6).toNat ≤ 0x3e) ∧
    ((0x2C000280#32).extractLsb' 26 6 = 0x0b#6 ∧ 10 ≤ ((0x2C000280#32).extractLsb' 6 4).toNat) ∧
    ((0x2C0003C0#32).extractLsb' 26 6 = 0x0b#6 ∧ 10 ≤ ((0x2C0003C0#32).extractLsb' 6 4).toNat) ∧
    ((0x80000000#32).extractLsb' 26 6 = 0x20#6 ∧ (0x80000000#32).extractLsb' 22 4 = (0x80000000#32).extractLsb' 14 4) ∧
    ((0x83C3C000#32).extractLsb' 26 6 = 0x20#6 ∧ (0x83C3C000#32).extractLsb' 22 4 = (0x83C3C000#32).extractLsb' 14 4) ∧
    (Opcode.fisz.code = (0x42000000#32).extractLsb' 26 6 ∧ Opcode.fisz.fieldsInRole 0x42000000#32 = false) ∧
    (Opcode.qinf.code = (0x89000000#32).extractLsb' 26 6 ∧ Opcode.qinf.fieldsInRole 0x89000000#32 = false) ∧
    (Opcode.fadd.code = (0x04000400#32).extractLsb' 26 6 ∧ Opcode.fadd.fieldsInRole 0x04000400#32 = false) ∧
    (Opcode.fldu.code = (0x30000080#32).extractLsb' 26 6 ∧ Opcode.fldu.fieldsInRole 0x30000080#32 = false) ∧
    (0x00000001#32).extractLsb' 0 6 ≠ 0#6 ∧ legal 0x34000000#32 = false ∧ State.reset.busy = false ∧
      State.reset.err = false := by decide +kernel

/-! ### Invariants and whole-machine rules -/

theorem busyState_steps : ∃ t, step busyState = .next t := by
  obtain ⟨t, ht⟩ := busyState_completes
  exact ⟨t, by rw [step_nil rfl, engineCycle_due rfl rfl, ht]⟩

theorem witness_EveryStepKeepsTheControlInvariant :
    (ControlOk errState ∧ step errState = .next errState) ∧ ControlOk busyState ∧ ∃ t, step busyState = .next t :=
  ⟨⟨errState_controlOk, rfl⟩, busyState_controlOk, busyState_steps⟩

theorem witness_EveryStepKeepsThePointsOnTheCurve :
    PointsOk (State.reset.setQ 3 basePoint) ∧
      step (State.reset.setQ 3 basePoint) = .next (State.reset.setQ 3 basePoint) := ⟨base_pointsOk, rfl⟩

theorem witness_StepStopsOnlyAtABadAccess_fault :
    ControlOk (nextIs errState (.access (.read (Config.base + 4096) 4))) ∧
      step (nextIs errState (.access (.read (Config.base + 4096) 4))) = .fault (.outsideWindow (Config.base + 4096)) := by
  refine ⟨?_, by simp [step, nextIs, happen, hostAccess, inWindow]⟩
  obtain ⟨a, b, c, d, e, f⟩ := errState_controlOk
  exact ⟨a, b, c, d, e, f⟩

theorem witness_StepStopsOnlyAtABadAccess_refusal :
    ControlOk (nextIs errState (.access (.write (Config.base + 1) 4 0#32))) ∧
      step (nextIs errState (.access (.write (Config.base + 1) 4 0#32))) = .refused (.busError (Config.base + 1) 4) := by
  refine ⟨?_, by simp [step, nextIs, happen, hostAccess, inWindow, accepted]⟩
  obtain ⟨a, b, c, d, e, f⟩ := errState_controlOk
  exact ⟨a, b, c, d, e, f⟩

theorem lift_origin : lift Config.curve ((st 0 0).raw 0) ((st 0 0).raw 1) = none := by decide +kernel

theorem witness_FailingCommandsWriteNoOperandState :
    exec (.qlift 0 0 1) (st 0 0) = .next ((st 0 0).raise .decode) ∧ ¬ SameLatch (st 0 0) ((st 0 0).raise .decode) := by
  refine ⟨?_, fun h => absurd h.1 (by decide)⟩
  change execQlift 0 0 1 (st 0 0) = _
  rw [execQlift, lift_origin]

/-- A command that leaves its destination's value as it was, the last destination of `SWU`, and a register it leaves alone. -/
theorem witness_CommandsWriteReducedFieldValues :
    PointsOk State.reset ∧ (∃ t, exec (.fmov 0 0) State.reset = .next t) ∧ (0 : FReg) ∈ fieldDests (.fmov 0 0) ∧
      (∃ t, exec (.swu 14 0 15) State.reset = .next t) ∧ (15 : FReg) ∈ fieldDests (.swu 14 0 15) ∧
      (13 : FReg) ∉ fieldDests (.swu 14 0 15) :=
  ⟨reset_pointsOk, ⟨_, rfl⟩, by decide, ⟨_, rfl⟩, by decide, by decide⟩

theorem witness_OnlyTheNamedCommandsWriteEachFile :
    (∃ t, exec (.fldk 15 .one) State.reset = .next t ∧ t.f ≠ State.reset.f) ∧
      (∃ t, exec (.pset 7 true) State.reset = .next t ∧ t.e ≠ State.reset.e) ∧
      (∃ t, exec (.qinf 3) (State.reset.setQ 3 basePoint) = .next t ∧ t.q ≠ (State.reset.setQ 3 basePoint).q) ∧
      ∃ t, exec .zero ubState = .next t ∧ t.ub ≠ ubState.ub :=
  ⟨⟨_, rfl, by decide +kernel⟩, ⟨_, rfl, by decide⟩, ⟨_, rfl, by decide +kernel⟩, ⟨_, rfl, by decide +kernel⟩⟩

/-- A `QLIFT` due, in two states that differ in operand state: it lifts in one and fails in the other. -/
theorem witness_TimingDoesNotDependOnOperands :
    let s := (st 0 0).withFetchWord 32 0x84004000
    let s' := (st q0x q0y).withFetchWord 32 0x84004000
    (s'.busy = s.busy ∧ s'.done = s.done ∧ s'.err = s.err ∧ s'.irqEn = s.irqEn ∧ s'.cnt = s.cnt ∧
      s'.pending = s.pending ∧ s'.lastCmd = s.lastCmd ∧ s'.schedule = s.schedule) ∧ ∃ t, step s = .next t := by
  refine ⟨⟨rfl, rfl, rfl, rfl, rfl, rfl, rfl, rfl⟩, ?_⟩
  obtain ⟨t, ht⟩ := exec_next (.qlift 0 0 1) (((st 0 0).withFetchWord 32 0x84004000).withSchedule [])
  refine ⟨t.retire, ?_⟩
  rw [step_cons rfl]
  change engineCycle _ = _
  rw [engineCycle_due rfl rfl, complete_of_decode (i := .qlift 0 0 1) (by decide +kernel), show (st 0 0).schedule = [] from rfl, completeWith_eq_next ht]

theorem witness_AcceptedCommandsTakeTheirLatency :
    (State.reset.busy = false ∧ State.reset.err = false ∧ legal 0x00000000#32 = true ∧
      ∀ e ∈ (nextIs State.reset .cycle).schedule.take (Config.lat ((0x00000000#32).extractLsb' 26 6) + 1), e = .cycle) ∧
      0 ≤ Config.lat ((0x00000000#32).extractLsb' 26 6) ∧
      Config.lat ((0x00000000#32).extractLsb' 26 6) ≤ Config.lat ((0x00000000#32).extractLsb' 26 6) :=
  ⟨⟨rfl, rfl, by decide +kernel, fun _ he => List.mem_singleton.mp (List.mem_of_mem_take he)⟩, Nat.zero_le _, le_refl _⟩

theorem busyState_succeeds (s : State) (he : s.err = false) : ∀ u, exec (.fadd 2 0 1) s = .next u → u.err = false := by
  intro u h
  change execFadd 2 0 1 s = _ at h
  unfold execFadd at h
  cases h
  simpa [State.writeField] using he

theorem witness_BothOrdersOfTheRaceAreAdmitted :
    let one : State := { busyState with schedule := [.access (.write (Config.base + 0x00C) 4 0#32), .cycle] }
    let other : State := { busyState with schedule := [.cycle, .access (.write (Config.base + 0x00C) 4 0#32)] }
    (one.busy = true ∧ one.cnt = 0 ∧ one.err = false ∧ decode one.pending = .ok (.fadd 2 0 1) ∧ legal 0#32 = true ∧
      ∀ u, exec (.fadd 2 0 1) one = .next u → u.err = false) ∧
    (other.busy = true ∧ other.cnt = 0 ∧ other.err = false ∧ decode other.pending = .ok (.fadd 2 0 1) ∧
      legal 0#32 = true ∧ ∀ u, exec (.fadd 2 0 1) other = .next u → u.err = false) :=
  ⟨⟨rfl, rfl, rfl, busyState_decodes, by decide +kernel, busyState_succeeds _ rfl⟩,
    ⟨rfl, rfl, rfl, busyState_decodes, by decide +kernel, busyState_succeeds _ rfl⟩⟩

/-! ### The instance and its mathematics -/

theorem fermatInv_eq (x : Nat) : fermatInv x = inv0 Config.curve x := (inv0_eq x).symm

theorem rootFormula_eq (x : Nat) : rootFormula x = sqrtP Config.curve x := (sqrtP_eq x).symm

theorem eulerSquare_iff (x : Nat) : EulerSquare x ↔ isSquare Config.curve x = true := (isSquare_eq_true_iff x).symm

/-- The values SWU steps 8 and 13 give for `u = 0`, whose abscissa 43_curve.md R160 prints. -/
def zeroX : Nat := 0xa528bd8696bdaf996c65b982d94959d3146fe6a020693090bdba13132375f224

/-- `u = 0`: the exceptional input of the map (43_curve.md R160, corner cases). -/
theorem witness_TheMapAlwaysLandsOnTheCurve : 0 < Config.curve.p ∧ ∃ y, SwuSteps 0 zeroX y := by
  have hsq : isSquare Config.curve (curveRhs Config.curve zeroX) = true := by decide +kernel
  have hi : inv0 Config.curve 0 = 0 := by decide +kernel
  have hx : zeroX = c2 Config.curve * c1 Config.curve % Config.curve.p := by decide +kernel
  have hg : curveRhs Config.curve zeroX =
    (zeroX ^ 3 + Config.curve.A * zeroX + Config.curve.B) % Config.curve.p := rfl
  refine ⟨by decide +kernel, ?_⟩
  generalize curveRhs Config.curve zeroX = g at hsq hg
  generalize zeroX = x at hx hg
  obtain ⟨r, hr⟩ : ∃ r, r = rootFormula g := ⟨_, rfl⟩
  have hy : ∃ y : Nat, (0 % 2 = r % 2 → y = r) ∧ (0 % 2 ≠ r % 2 → (y : Int) = (-(r : Int)) % Config.curve.p) := by
    by_cases h : 0 % 2 = r % 2
    · exact ⟨r, fun _ => rfl, fun h' => absurd h h'⟩
    · exact ⟨resid Config.curve.p (-(r : Int)), fun h' => absurd h' h, fun _ => resid_cast curve_p_pos _⟩
  obtain ⟨y, hy1, hy2⟩ := hy
  refine ⟨y, 0, 0, 0, x, g, 0, 0, g, r, by simp, by simp, ?_, fun _ => hx, fun h => absurd rfl h, hg, by simp, by simp, ?_, ?_,
    hr, hy1, hy2⟩
  · rw [fermatInv_eq]; simpa using hi.symm
  · intro _; exact ⟨rfl, rfl⟩
  · intro h; exact absurd ((eulerSquare_iff g).mpr hsq) h

theorem witness_HashToCurveEqualsTheCommandSequence :
    (0 : FReg) ≠ 1 ∧ (2 : FReg) ≠ 3 ∧ (4 : FReg) ≠ 5 ∧ (1 : FReg) ≠ 2 ∧ (1 : FReg) ≠ 3 ∧ (4 : FReg) ≠ 2 ∧ (4 : FReg) ≠ 3 ∧
      (5 : FReg) ≠ 2 ∧ (5 : FReg) ≠ 3 ∧ (0 : QReg) ≠ 3 := by decide

theorem witness_PseudoInstructionsExpandAsListed : (0 : FReg) ≠ 15 := by decide

end Sys2Proof.Tests
end

section
/-! The P-256 constants are a legal configuration (00_scope.md R8 to R10). The field facts are proved for any prime
modulus of 256 bits, in `ZMod p`. -/

namespace Sys2Proof.Machine

open Sys2Proof.Config (Curve)

/-- An equation `a = −b` of `ZMod n`, as the residue of a sum of naturals. -/
theorem add_mod_eq_zero_of_cast_eq_neg {n a b : Nat} (h : (a : ZMod n) = -b) : (a + b) % n = 0 := by
  rw [← Nat.dvd_iff_mod_eq_zero, ← ZMod.natCast_eq_zero_iff, Nat.cast_add, h, neg_add_cancel]

section
variable {c : Curve} (hprime : c.p.Prime) (hlt : c.p < 2 ^ 256)
include hprime hlt

/-- Fermat: `inv0(x)` is the inverse of a nonzero `x` in `GF(p)`. -/
theorem inv0_mul_cancel {x : Nat} (hx : x % c.p ≠ 0) : ((inv0 c x : Nat) : ZMod c.p) * x = 1 := by
  have : Fact c.p.Prime := ⟨hprime⟩
  have hx' : (x : ZMod c.p) ≠ 0 := by
    rwa [Ne, ZMod.natCast_eq_zero_iff, Nat.dvd_iff_mod_eq_zero]
  have hp : c.p - 2 + 1 = c.p - 1 := by have := hprime.two_le; omega
  rw [inv0, powMod_eq _ _ (by omega), ZMod.natCast_mod, Nat.cast_pow, ← pow_succ, hp, ZMod.pow_card_sub_one_eq_one hx']

/-- `c1 = −B/A` in `GF(p)`, without a division (00_scope.md R8). -/
theorem c1_mul_A (hA : c.A % c.p ≠ 0) : ((c1 c : Nat) : ZMod c.p) * c.A = -c.B := by
  rw [c1, resid_zmod hprime.pos]
  push_cast
  rw [mul_assoc, inv0_mul_cancel hprime hlt hA, mul_one]

/-- `c2 = −1/Z` in `GF(p)`, without a division (00_scope.md R8). -/
theorem c2_mul_Z (hZ : c.Z % c.p ≠ 0) : ((c2 c : Nat) : ZMod c.p) * c.Z = -1 := by
  rw [c2, resid_zmod hprime.pos]
  push_cast
  rw [neg_mul, inv0_mul_cancel hprime hlt hZ]

/-- `c1·c2` is the exceptional abscissa `B/(Z·A)` of 00_scope.md R9(e). -/
theorem c1_mul_c2_mul_ZA (hA : c.A % c.p ≠ 0) (hZ : c.Z % c.p ≠ 0) : c1 c * c2 c * (c.Z * c.A) % c.p = c.B % c.p := by
  rw [← ZMod.natCast_eq_natCast_iff']
  push_cast
  calc (c1 c * c2 c * (c.Z * c.A) : ZMod c.p)
      = (c1 c * c.A) * (c2 c * c.Z) := by ring
    _ = c.B := by rw [c1_mul_A hprime hlt hA, c2_mul_Z hprime hlt hZ, neg_mul_neg, mul_one]

/-- Euler's criterion: `is_square` (00_scope.md R17) is true of the squares modulo `p` and of nothing else. -/
theorem isSquare_iff_exists_root (hodd : c.p % 2 = 1) (x : Nat) :
    isSquare c x = true ↔ ∃ y, y * y % c.p = x % c.p := by
  have : Fact c.p.Prime := ⟨hprime⟩
  have hhalf : (c.p - 1) / 2 = c.p / 2 := by omega
  have heuler : isSquare c x = true ↔ (x : ZMod c.p) ^ (c.p / 2) = 0 ∨ (x : ZMod c.p) ^ (c.p / 2) = 1 := by
    rw [isSquare, Bool.or_eq_true, beq_iff_eq, beq_iff_eq, hhalf, zmod_pow_eq_one_iff hprime.one_lt (by omega),
      powMod_eq _ _ (by omega), ← Nat.cast_pow, ZMod.natCast_eq_zero_iff, Nat.dvd_iff_mod_eq_zero]
  have hroot : (∃ y, y * y % c.p = x % c.p) ↔ IsSquare (x : ZMod c.p) := by
    constructor
    · rintro ⟨y, hy⟩
      exact ⟨y, by rw [← Nat.cast_mul, ZMod.natCast_eq_natCast_iff', hy]⟩
    · rintro ⟨r, hr⟩
      exact ⟨r.val, by rw [← ZMod.natCast_eq_natCast_iff', Nat.cast_mul, ZMod.natCast_zmod_val, hr]⟩
  rw [heuler, hroot]
  by_cases hx : (x : ZMod c.p) = 0
  · have : c.p / 2 ≠ 0 := by have := hprime.two_le; omega
    simp [hx, this]
  · rw [ZMod.euler_criterion c.p hx, or_iff_right (pow_ne_zero _ hx)]

end

/-! ### The P-256 constants -/

theorem curve_A_ne_zero : Config.curve.A % Config.curve.p ≠ 0 := by decide +kernel

theorem curve_Z_ne_zero : Config.curve.Z % Config.curve.p ≠ 0 := by decide +kernel

/-- `is_square` of the engine decides the squares modulo the modulus of P-256. -/
theorem curve_isSquare_iff (x : Nat) :
    isSquare Config.curve x = true ↔ ∃ y, y * y % Config.curve.p = x % Config.curve.p :=
  isSquare_iff_exists_root curve_p_prime curve_p_lt (by decide +kernel) x

/-- 00_scope.md R9(b): by Euler's criterion, computed. -/
theorem curve_Z_not_square : ¬ ∃ y, y * y % Config.curve.p = Config.curve.Z % Config.curve.p := by
  rw [← curve_isSquare_iff]
  decide +kernel

/-- 00_scope.md R9(e): `g(B/(Z·A))` is a square, with `c1·c2` for `B/(Z·A)`. -/
theorem curve_exceptional_square :
    ∃ x y, x * (Config.curve.Z * Config.curve.A) % Config.curve.p = Config.curve.B % Config.curve.p ∧
      y * y % Config.curve.p = (x ^ 3 + Config.curve.A * x + Config.curve.B) % Config.curve.p := by
  have hsq : isSquare Config.curve ((c1 Config.curve * c2 Config.curve) ^ 3 +
      Config.curve.A * (c1 Config.curve * c2 Config.curve) + Config.curve.B) = true := by decide +kernel
  obtain ⟨y, hy⟩ := (curve_isSquare_iff _).mp hsq
  exact ⟨_, y, c1_mul_c2_mul_ZA curve_p_prime curve_p_lt curve_A_ne_zero curve_Z_ne_zero, hy⟩

/-- 00_scope.md R9, (a) to (f), for the constants of R10. -/
theorem curve_legal : Config.curve.Legal where
  threeModFour := by decide +kernel
  zNonSquare := curve_Z_not_square
  aNonZero := curve_A_ne_zero
  primeModulus := curve_p_prime
  bNonZero := by decide +kernel
  nonSingular := by decide +kernel
  zNotMinusOne := by decide +kernel
  exceptionalSquare := curve_exceptional_square
  width := ⟨by decide +kernel, curve_p_lt⟩

theorem curve_c1_equation : (c1 Config.curve * Config.curve.A + Config.curve.B) % Config.curve.p = 0 :=
  add_mod_eq_zero_of_cast_eq_neg
    (by rw [Nat.cast_mul]; exact c1_mul_A curve_p_prime curve_p_lt curve_A_ne_zero)

theorem curve_c2_equation : (c2 Config.curve * Config.curve.Z + 1) % Config.curve.p = 0 :=
  add_mod_eq_zero_of_cast_eq_neg
    (by rw [Nat.cast_mul, Nat.cast_one]; exact c2_mul_Z curve_p_prime curve_p_lt curve_Z_ne_zero)

/-- Settles O57: R9's conditions one by one in `curve_legal`, and R8's equations, which hold for `c1` and `c2` over any
prime modulus that divides neither `A` nor `Z`. -/
theorem theInstanceIsALegalConfiguration : Obligations.TheInstanceIsALegalConfiguration :=
  ⟨curve_legal, rfl, curve_c1_equation, curve_c2_equation⟩

end Sys2Proof.Machine
end

section
/-! The addition law stays on the curve (10_state.md R26, 43_curve.md R163): a line that meets the curve in two points, or
touches it in one, meets it again where `chordEnd` says. -/

namespace Sys2Proof.Machine

open Sys2Proof.Config (curve)
open Sys2Proof.Safety

/-- The third intersection of a line of slope `l` with the curve, mirrored, over any ring. `hline` says that the line
through the first point passes through the second and `hslope` that both meet the curve there; with the second point equal
to the first, `hslope` is the tangent's slope. -/
theorem line_end_on_curve {R : Type} [CommRing R] {A B l x1 y1 x2 y2 x3 y3 : R} (hcurve : y1 ^ 2 = x1 ^ 3 + A * x1 + B)
    (hline : l * (x2 - x1) = y2 - y1) (hslope : l * (y1 + y2) = x1 ^ 2 + x1 * x2 + x2 ^ 2 + A)
    (hx : x3 = l ^ 2 - x1 - x2) (hy : y3 = l * (x1 - x3) - y1) : y3 ^ 2 = x3 ^ 3 + A * x3 + B := by
  subst hx hy
  linear_combination hcurve + (l ^ 2 - x1 - x2 - x1) * hslope + l * (l ^ 2 - x1 - x2 - x1) * hline

/-- The slope condition of a chord: both ends are on the curve and their abscissas differ. -/
theorem chord_slope {K : Type} [Field K] {A B l x1 y1 x2 y2 : K} (h1 : y1 ^ 2 = x1 ^ 3 + A * x1 + B)
    (h2 : y2 ^ 2 = x2 ^ 3 + A * x2 + B) (hne : x2 - x1 ≠ 0) (hline : l * (x2 - x1) = y2 - y1) :
    l * (y1 + y2) = x1 ^ 2 + x1 * x2 + x2 ^ 2 + A := by
  apply mul_left_cancel₀ hne
  linear_combination h2 - h1 + (y1 + y2) * hline

/-! ### Points of the invariant, in `GF(p)` -/

theorem pointOk_identity : PointOk Point.identity := .inl rfl

/-- A point of the invariant that is not the identity. -/
theorem pointOk_finite {P : Point} (h : PointOk P) (hi : P.inf = false) :
    P.x.toNat < curve.p ∧ P.y.toNat < curve.p ∧
      ((P.y.toNat : ZMod curve.p)) ^ 2 = (P.x.toNat : ZMod curve.p) ^ 3 + curve.A * P.x.toNat + curve.B := by
  rcases h with rfl | ⟨-, hx, hy, heq⟩
  · cases hi
  · exact ⟨hx, hy, by exact_mod_cast (ZMod.natCast_eq_natCast_iff' _ _ _).mpr heq⟩

theorem pointOk_affine {x y : Nat} (hx : x < curve.p) (hy : y < curve.p)
    (h : (y : ZMod curve.p) ^ 2 = (x : ZMod curve.p) ^ 3 + curve.A * x + curve.B) : PointOk (.affine x y) := by
  refine .inr ⟨rfl, ?_⟩
  simp only [Point.affine, toNat_ofNat_of_lt hx, toNat_ofNat_of_lt hy]
  exact ⟨hx, hy, (ZMod.natCast_eq_natCast_iff' _ _ _).mp (by exact_mod_cast h)⟩

/-- Coordinates that pass the on-curve check of 00_scope.md R17. -/
theorem pointOk_of_onCurve {x y : Nat} (hx : x < curve.p) (hy : y < curve.p) (h : onCurve curve x y = true) :
    PointOk (.affine x y) :=
  pointOk_affine hx hy
    (by exact_mod_cast (ZMod.natCast_eq_natCast_iff' _ _ _).mpr ((onCurve_eq_true_iff x y).mp h))

theorem pointOk_lift {x y : Nat} {P : Point} (h : lift curve x y = some P) : PointOk P := by
  obtain ⟨hx, hy, hc, rfl⟩ := (lift_eq_some_iff x y P).mp h
  exact pointOk_of_onCurve hx hy hc

/-- `chordEnd` is on the curve when its line meets the curve as `line_end_on_curve` asks. -/
theorem pointOk_chordEnd {l x1 y1 x2 : Nat} {y2 : ZMod curve.p}
    (hcurve : (y1 : ZMod curve.p) ^ 2 = (x1 : ZMod curve.p) ^ 3 + curve.A * x1 + curve.B)
    (hline : (l : ZMod curve.p) * (x2 - x1) = y2 - y1)
    (hslope : (l : ZMod curve.p) * (y1 + y2) = x1 ^ 2 + x1 * x2 + x2 ^ 2 + curve.A) :
    PointOk (chordEnd curve l x1 y1 x2) := by
  unfold chordEnd
  refine pointOk_affine (resid_lt curve_p_pos _) (resid_lt curve_p_pos _)
    (line_end_on_curve hcurve hline hslope ?_ ?_)
  · rw [resid_zmod curve_p_pos]; push_cast; rfl
  · rw [resid_zmod curve_p_pos]; push_cast; rfl

/-! ### The addition law (43_curve.md R163) -/

/-- Two naturals below `p` that differ, differ in `GF(p)`. -/
theorem cast_ne_of_lt {m n : Nat} (hm : m < curve.p) (hn : n < curve.p) (h : m ≠ n) : (m : ZMod curve.p) ≠ n := by
  rwa [Ne, ZMod.natCast_eq_natCast_iff', Nat.mod_eq_of_lt hm, Nat.mod_eq_of_lt hn]

/-- Twice a nonzero value below the odd modulus is not 0 modulo it. -/
theorem two_mul_mod_ne_zero {y : Nat} (hy : y < curve.p) (h0 : y ≠ 0) : 2 * y % curve.p ≠ 0 := by
  have hodd : curve.p % 2 = 1 := by decide +kernel
  intro h
  obtain ⟨k, hk⟩ := Nat.dvd_of_mod_eq_zero h
  obtain rfl | rfl | hk2 : k = 0 ∨ k = 1 ∨ 2 ≤ k := by omega
  · omega
  · omega
  · have := Nat.mul_le_mul_left curve.p hk2; omega

/-- `inv0` of a residue is the inverse in `GF(p)`. -/
theorem curve_inv0_mul_cancel {x : Nat} (hx : (x : ZMod curve.p) ≠ 0) :
    ((inv0 curve x : Nat) : ZMod curve.p) * x = 1 :=
  inv0_mul_cancel curve_p_prime curve_p_lt (by rwa [Ne, ZMod.natCast_eq_zero_iff, Nat.dvd_iff_mod_eq_zero] at hx)

theorem pointOk_pdbl {P : Point} (h : PointOk P) : PointOk (pdbl curve P) := by
  unfold pdbl
  dsimp only
  split
  · exact pointOk_identity
  · next hi =>
    obtain ⟨-, hy, hcurve⟩ := pointOk_finite h (by simpa using hi)
    split
    · exact pointOk_identity
    · next hy0 =>
      have hinv := curve_inv0_mul_cancel (x := 2 * P.y.toNat % curve.p) (by
        rw [ZMod.natCast_mod, Ne, ZMod.natCast_eq_zero_iff, Nat.dvd_iff_mod_eq_zero]
        exact two_mul_mod_ne_zero hy hy0)
      rw [ZMod.natCast_mod] at hinv
      push_cast at hinv
      refine pointOk_chordEnd (y2 := P.y.toNat) hcurve (by ring) ?_
      rw [ZMod.natCast_mod]
      push_cast
      linear_combination (3 * (P.x.toNat : ZMod curve.p) ^ 2 + curve.A) * hinv

theorem pointOk_padd {P Q : Point} (hP : PointOk P) (hQ : PointOk Q) : PointOk (padd curve P Q) := by
  have : Fact curve.p.Prime := ⟨curve_p_prime⟩
  unfold padd
  dsimp only
  split
  · exact hQ
  · next hiP =>
    split
    · exact hP
    · next hiQ =>
      obtain ⟨hxP, -, hcP⟩ := pointOk_finite hP (by simpa using hiP)
      obtain ⟨hxQ, -, hcQ⟩ := pointOk_finite hQ (by simpa using hiQ)
      split
      · exact pointOk_identity
      · split
        · exact pointOk_pdbl hP
        · next hx =>
          have hne : (Q.x.toNat : ZMod curve.p) - P.x.toNat ≠ 0 := sub_ne_zero.mpr (cast_ne_of_lt hxQ hxP (Ne.symm hx))
          have hdiff : ((resid curve.p ((Q.x.toNat : Int) - P.x.toNat) : Nat) : ZMod curve.p) =
              Q.x.toNat - P.x.toNat := by
            rw [resid_zmod curve_p_pos]; push_cast; rfl
          have hinv := curve_inv0_mul_cancel (hdiff ▸ hne)
          rw [hdiff] at hinv
          have hline : ((resid curve.p (((Q.y.toNat : Int) - P.y.toNat) *
              inv0 curve (resid curve.p ((Q.x.toNat : Int) - P.x.toNat))) : Nat) : ZMod curve.p) *
                (Q.x.toNat - P.x.toNat) = Q.y.toNat - P.y.toNat := by
            rw [resid_zmod curve_p_pos]
            push_cast
            linear_combination ((Q.y.toNat : ZMod curve.p) - P.y.toNat) * hinv
          exact pointOk_chordEnd hcP hline (chord_slope hcP hcQ hne hline)

end Sys2Proof.Machine
end

section
/-! What `Execute` of each command can do, said once (10_state.md R39): which registers it writes, and that the field values
it writes are reduced (R23) and the points on the curve (R26). The rules about what commands change are read off it. -/

namespace Sys2Proof.Machine

open Sys2Proof.Config (curve)
open Sys2Proof.Safety

/-! ### The values written -/

theorem constant_lt (k : FieldConst) : constant curve k < curve.p := by
  cases k
  case c1 => rw [constant, c1]; exact resid_lt curve_p_pos _
  case c2 => rw [constant, c2]; exact resid_lt curve_p_pos _
  all_goals decide +kernel

theorem powMod_lt {x n : Nat} (hn : n < 2 ^ 256) : powMod curve.p x n < curve.p := by
  rw [powMod_eq _ _ hn]; exact mod_curve_p_lt _

theorem sqrtP_lt (x : Nat) : sqrtP curve x < curve.p := by
  rw [sqrtP_eq]; exact mod_curve_p_lt _

theorem cmov_lt {x y n : Nat} (hx : x < n) (hy : y < n) (b : Bool) : cmov x y b < n := by
  cases b
  · exact hx
  · exact hy

theorem swuMap_fst_lt (u : Nat) : (swuMap curve u).1 < curve.p := by
  unfold swuMap
  dsimp only
  exact cmov_lt (mod_curve_p_lt _) (mod_curve_p_lt _) _

theorem swuMap_snd_lt (u : Nat) : (swuMap curve u).2 < curve.p := by
  unfold swuMap
  dsimp only
  exact cmov_lt (resid_lt curve_p_pos _) (sqrtP_lt _) _

/-- The coordinates of a point of the invariant are reduced, those of the identity too. -/
theorem pointOk_coords_lt {P : Point} (h : PointOk P) : P.x.toNat < curve.p ∧ P.y.toNat < curve.p := by
  rcases h with rfl | ⟨-, hx, hy, -⟩
  · exact ⟨curve_p_pos, curve_p_pos⟩
  · exact ⟨hx, hy⟩

/-- The pair `H2C` has checked is a point of the curve (43_curve.md R169). -/
theorem pointOk_swuMap {u : Nat} (h : onCurve curve (swuMap curve u).1 (swuMap curve u).2 = true) :
    PointOk (.affine (swuMap curve u).1 (swuMap curve u).2) :=
  pointOk_of_onCurve (swuMap_fst_lt u) (swuMap_snd_lt u) h

/-! ### The effect of a command -/

/-- The commands that write `F`. -/
def fieldOpcodes : List Opcode :=
  [.fadd, .fsub, .fneg, .fmul, .fsqr, .finv, .fdiv, .fexp, .fsqrt, .fmov, .fldk, .fldu, .fcmov, .swu, .qgetx, .qgety, .zero]

/-- The commands that write `E`. -/
def predicateOpcodes : List Opcode :=
  [.fisz, .feq, .fissq, .fsgn0, .pand, .por, .pxor, .pxnor, .pnot, .pset, .qisinf, .zero]

/-- The commands that write `Q`. -/
def pointOpcodes : List Opcode := [.qlift, .qinf, .qadd, .qdbl, .h2c, .zero]

/-- What `Execute` of `i` can make of `s`. -/
inductive Effect (i : Instr) (s : State) : State → Prop
  /-- `NOP` -/
  | nothing (hi : i = .nop) : Effect i s s
  /-- The commands with one destination in `F`; the points' coordinates are reduced where R26 holds. -/
  | field (d : FReg) (v : Reg) (hd : fieldDests i = [d]) (hv : PointsOk s → v.toNat < curve.p) : Effect i s (s.setF d v)
  /-- `SWU` -/
  | pair (d b : FReg) (v w : Reg) (hd : fieldDests i = [d, b]) (hv : v.toNat < curve.p) (hw : w.toNat < curve.p) :
      Effect i s ((s.setF d v).setF b w)
  /-- The tests, the predicate commands and `QISINF`. -/
  | predicate (d : EReg) (b : Bool) (hi : i.opcode ∈ predicateOpcodes) (hd : fieldDests i = []) : Effect i s (s.setE d b)
  /-- The point commands, where no check fails. -/
  | point (d : QReg) (P : Point) (hi : i.opcode ∈ pointOpcodes) (hd : fieldDests i = []) (hP : PointsOk s → PointOk P) :
      Effect i s (s.setQ d P)
  /-- `QLIFT` and `H2C`, where a check fails. -/
  | error (hd : fieldDests i = []) : Effect i s (s.raise .decode)
  /-- `ZERO` -/
  | wipe (hi : i = .zero) : Effect i s s.wipe

/-- A command with one destination in `F` that writes a value below `p` (41_field_arith.md R112). -/
theorem effect_writeField {i : Instr} (s : State) {d : FReg} {n : Nat} (hd : fieldDests i = [d]) (hn : n < curve.p) :
    Effect i s (s.writeField d n) :=
  .field d _ hd fun _ => (toNat_ofNat_of_lt hn).symm ▸ hn

theorem effect_qlift {s t : State} {d : QReg} {a b : FReg} (h : exec (.qlift d a b) s = .next t) :
    Effect (.qlift d a b) s t := by
  change execQlift d a b s = .next t at h
  unfold execQlift at h
  split at h
  · next P hP => cases h; exact .point d P (.head _) rfl fun _ => pointOk_lift hP
  · cases h; exact .error rfl

theorem effect_h2c {s t : State} {d : QReg} (h : exec (.h2c d) s = .next t) : Effect (.h2c d) s t := by
  change execH2c d s = .next t at h
  unfold execH2c at h
  dsimp only at h
  split at h
  · cases h; exact .error rfl
  · next hc =>
    simp only [Bool.or_eq_true, Bool.not_eq_true', not_or, Bool.not_eq_false] at hc
    obtain ⟨h0, h1⟩ := hc
    cases h
    exact .point d _ (of_decide_eq_true rfl) rfl fun _ => pointOk_padd (pointOk_swuMap h0) (pointOk_swuMap h1)

/-- Everything `Execute` can do. -/
theorem exec_effect {i : Instr} {s t : State} (h : exec i s = .next t) : Effect i s t := by
  cases i
  case qlift => exact effect_qlift h
  case h2c => exact effect_h2c h
  all_goals cases h
  case nop => exact .nothing rfl
  case zero => exact .wipe rfl
  case fadd => exact effect_writeField s rfl (mod_curve_p_lt _)
  case fsub => exact effect_writeField s rfl (resid_lt curve_p_pos _)
  case fneg => exact effect_writeField s rfl (resid_lt curve_p_pos _)
  case fmul => exact effect_writeField s rfl (mod_curve_p_lt _)
  case fsqr => exact effect_writeField s rfl (mod_curve_p_lt _)
  case finv => exact effect_writeField s rfl (powMod_lt (by decide +kernel))
  case fdiv => exact effect_writeField s rfl (mod_curve_p_lt _)
  case fexp => exact effect_writeField s rfl (powMod_lt (BitVec.isLt _))
  case fsqrt => exact effect_writeField s rfl (sqrtP_lt _)
  case fmov => exact effect_writeField s rfl (fv_lt _ _)
  case fldk => exact effect_writeField s rfl (constant_lt _)
  case fldu => exact effect_writeField s rfl (mod_curve_p_lt _)
  case fcmov => exact effect_writeField s rfl (cmov_lt (fv_lt _ _) (fv_lt _ _) _)
  case qgetx a => exact .field _ _ rfl fun hs => (pointOk_coords_lt (hs a)).1
  case qgety a => exact .field _ _ rfl fun hs => (pointOk_coords_lt (hs a)).2
  case swu a _ =>
    exact .pair _ _ _ _ rfl ((toNat_ofNat_of_lt (swuMap_fst_lt _)).symm ▸ swuMap_fst_lt _)
      ((toNat_ofNat_of_lt (swuMap_snd_lt _)).symm ▸ swuMap_snd_lt _)
  case qinf => exact .point _ _ (of_decide_eq_true rfl) rfl fun _ => pointOk_identity
  case qadd a b => exact .point _ _ (of_decide_eq_true rfl) rfl fun hs => pointOk_padd (hs a) (hs b)
  case qdbl a => exact .point _ _ (of_decide_eq_true rfl) rfl fun hs => pointOk_pdbl (hs a)
  all_goals exact .predicate _ _ (of_decide_eq_true rfl) rfl

end Sys2Proof.Machine
end

section
/-! What the host's accesses do, said once: the error latch as the frames have it (60_exceptions.md R200), reads and writes by
slot (20_memory.md R50 to R58), and the control registers bit by bit (10_state.md R31, R32, R36). -/

namespace Sys2Proof.Machine

open Sys2Proof.Safety

/-! ### Frames, and the taking of an error (60_exceptions.md R200) -/

theorem sameControl_refl (s : State) : SameControl s s := ⟨rfl, rfl, rfl, rfl, rfl, rfl, rfl, rfl, rfl⟩

theorem sameControl_latch (s : State) (code : ErrCode) (info : Word) : SameControl s (s.latch code info) := by
  simp [SameControl]

theorem sameOperands_latch (s : State) (code : ErrCode) (info : Word) : SameOperands s (s.latch code info) := by
  simp [SameOperands]

theorem errorTaken_latch (s : State) (code : ErrCode) (info : Word) : ErrorTaken s (s.latch code info) code info := by
  refine ⟨sameOperands_latch s code info, sameControl_latch s code info, fun h => ?_, fun h => ?_⟩
  · simp [State.latch_errCode, State.latch_errInfo, h]
  · rw [State.latch_of_err h]; exact ⟨rfl, rfl, rfl⟩

/-! ### Reads and writes, by slot -/

/-- Everything a window read can do. -/
theorem State.memRead_cases (s : State) (off : Nat) :
    s.memRead off = s.answerFree ∨ s.memRead off = s.answer (s.slotWord (slotAt off)) := by
  unfold State.memRead
  split
  · exact .inl rfl
  · exact .inr rfl

/-- A slot that defines its value while busy too answers it at any time (20_memory.md R57). -/
theorem State.rdata_memRead_control (s : State) {off : Nat} (h : (slotAt off).unspecifiedWhileBusy = false) :
    (s.memRead off).rdata = some (s.slotWord (slotAt off)) := by
  simp [State.memRead, h]

theorem State.rdata_memRead_idle {s : State} (h : s.busy = false) (off : Nat) :
    (s.memRead off).rdata = some (s.slotWord (slotAt off)) := by
  simp [State.memRead, h]

theorem State.memRead_busy {s : State} (hb : s.busy = true) {off : Nat} (h : (slotAt off).unspecifiedWhileBusy = true) :
    s.memRead off = s.answerFree := by
  simp [State.memRead, hb, h]

theorem State.memWrite_cmd (s : State) {off : Nat} (h : slotAt off = .cmd) (v : Word) : s.memWrite off v = s.issue v := by
  simp [State.memWrite, h]

theorem State.memWrite_ctrl (s : State) {off : Nat} (h : slotAt off = .ctrl) (v : Word) :
    s.memWrite off v = s.writeCtrl v := by
  simp [State.memWrite, h]

theorem State.memWrite_status (s : State) {off : Nat} (h : slotAt off = .status) (v : Word) :
    s.memWrite off v = s.writeStatus v := by
  simp [State.memWrite, h]

theorem State.memWrite_pred (s : State) {off : Nat} (h : slotAt off = .pred) (v : Word) :
    s.memWrite off v = s.operandWrite off (s.setPred v) := by
  simp [State.memWrite, h]

theorem State.operandWrite_busy {s : State} (h : s.busy = true) (off : Nat) (t : State) :
    s.operandWrite off t = s.latch .busyWrite (BitVec.ofNat 32 off) := by
  simp [State.operandWrite, h]

theorem State.operandWrite_idle {s : State} (h : s.busy = false) (off : Nat) (t : State) : s.operandWrite off t = t := by
  simp [State.operandWrite, h]

/-- What a write outside `CTRL` and `STATUS` can do (20_memory.md R50). -/
theorem State.memWrite_cases_of_ne (s : State) {off : Nat} (hctrl : slotAt off ≠ .ctrl) (hstatus : slotAt off ≠ .status)
    (v : Word) :
    s.memWrite off v = s ∨ s.memWrite off v = s.issue v ∨ ∃ t, s.memWrite off v = s.operandWrite off t ∧
      (t = s.setPred v ∨ (∃ i k, t = s.setFWord i k v) ∨ ∃ m, t = s.setUbWord m v) := by
  unfold State.memWrite
  split
  case h_1 => exact .inr (.inl rfl)
  case h_2 h => exact absurd h hctrl
  case h_3 h => exact absurd h hstatus
  case h_4 => exact .inr (.inr ⟨_, rfl, .inl rfl⟩)
  case h_5 i k _ => exact .inr (.inr ⟨_, rfl, .inr (.inl ⟨i, k, rfl⟩)⟩)
  case h_6 m _ => exact .inr (.inr ⟨_, rfl, .inr (.inr ⟨m, rfl⟩)⟩)
  all_goals exact .inl rfl

/-! ### The offsets of `CTRL` and `STATUS` -/

/-- Outside the offsets of the control registers the window holds operand state or nothing (20_memory.md R50). -/
theorem slotAt_of_not_control {off : Nat} (h : off ∉ [0x000, 0x004, 0x008, 0x00C, 0x010, 0x014, 0x018]) :
    (slotAt off).unspecifiedWhileBusy = true ∨ slotAt off = .reserved := by
  simp only [List.mem_cons, List.not_mem_nil, or_false, not_or] at h
  unfold slotAt
  repeat rw [if_neg (by omega)]
  repeat' split
  all_goals simp [Slot.unspecifiedWhileBusy]

/-- A control register stands at one of the control offsets. -/
theorem offset_of_control {off : Nat} (hfixed : (slotAt off).unspecifiedWhileBusy = false) (hres : slotAt off ≠ .reserved) :
    off = 0x000 ∨ off = 0x004 ∨ off = 0x008 ∨ off = 0x00C ∨ off = 0x010 ∨ off = 0x014 ∨ off = 0x018 := by
  by_contra hoff
  obtain hu | hr := slotAt_of_not_control (off := off) (by simpa using hoff)
  · rw [hfixed] at hu; cases hu
  · exact hres hr

theorem slotAt_eq_ctrl_iff (off : Nat) : slotAt off = .ctrl ↔ off = 0x004 := by
  refine ⟨fun h => ?_, fun h => h ▸ rfl⟩
  obtain rfl | rfl | rfl | rfl | rfl | rfl | rfl := offset_of_control (by rw [h]; rfl) (by rw [h]; nofun)
  case inr.inl => rfl
  all_goals cases h

theorem slotAt_eq_status_iff (off : Nat) : slotAt off = .status ↔ off = 0x008 := by
  refine ⟨fun h => ?_, fun h => h ▸ rfl⟩
  obtain rfl | rfl | rfl | rfl | rfl | rfl | rfl := offset_of_control (by rw [h]; rfl) (by rw [h]; nofun)
  case inr.inr.inl => rfl
  all_goals cases h

/-- The address of an access in the window, by its offset. -/
theorem addr_eq_of_inWindow {addr off : Nat} (hw : inWindow addr = true) (h : addr - Config.base = off) :
    addr = Config.base + off := by
  simp only [inWindow, Bool.and_eq_true, decide_eq_true_eq] at hw
  omega

/-! ### The bits of a one-bit word -/

theorem getLsbD_bitAt (i : Nat) (b : Bool) (j : Nat) :
    (bitAt i b).getLsbD j = (b && decide (j < 32) && decide (j = i)) := by
  cases b
  · simp [bitAt]
  · simp only [bitAt, if_pos, BitVec.getLsbD_shiftLeft, BitVec.getLsbD_one]
    grind

/-! ### `CTRL` (10_state.md R31) -/

theorem State.writeCtrl_srst (s : State) {v : Word} (h : v.getLsbD 1 = true) : s.writeCtrl v = s.resetEngine := by
  rw [State.writeCtrl, if_pos h]

theorem State.writeCtrl_enable (s : State) {v : Word} (h : v.getLsbD 1 = false) :
    s.writeCtrl v = s.setIrqEn (v.getLsbD 0) := by
  rw [State.writeCtrl, if_neg (by rw [h]; nofun)]

/-- Everything a `CTRL` write can do. -/
theorem State.writeCtrl_cases (s : State) (v : Word) :
    s.writeCtrl v = s.resetEngine ∨ v.getLsbD 1 = false ∧ s.writeCtrl v = s.setIrqEn (v.getLsbD 0) := by
  cases h : v.getLsbD 1
  · exact .inr ⟨rfl, s.writeCtrl_enable h⟩
  · exact .inl (s.writeCtrl_srst h)

theorem atReset_resetEngine (s : State) : AtReset s.resetEngine :=
  ⟨State.getF_of_replicate rfl, State.getE_of_replicate rfl, State.getQ_of_replicate rfl, by simp, rfl, rfl, rfl, rfl, rfl,
    rfl, rfl, rfl, rfl, rfl⟩

/-! ### `STATUS` (10_state.md R32) -/

theorem State.statusWord_getLsbD (s : State) (j : Nat) :
    s.statusWord.getLsbD j = (s.busy && decide (j = 0) || s.done && decide (j = 1) || s.err && decide (j = 2)) := by
  simp only [State.statusWord, BitVec.getLsbD_or, getLsbD_bitAt]
  grind

/-- What a `STATUS` write leaves of each field. -/
theorem State.writeStatus_eq (s : State) (v : Word) :
    s.writeStatus v =
      { s with
        done := s.done && !v.getLsbD 1
        err := s.err && !v.getLsbD 2
        errCode := if v.getLsbD 2 then .none else s.errCode
        errInfo := if v.getLsbD 2 then 0#32 else s.errInfo } := by
  unfold State.writeStatus
  cases v.getLsbD 1 <;> cases v.getLsbD 2 <;> simp [State.clearDone, State.clearErr]

/-! ### `PRED` (10_state.md R36) -/

theorem State.predWord_getLsbD (s : State) (i : EReg) : s.predWord.getLsbD i.val = s.getE i := by
  simp only [State.predWord, BitVec.getLsbD_or, getLsbD_bitAt, State.getE]
  fin_cases i <;> simp

theorem State.predWord_getLsbD_of_le (s : State) {j : Nat} (h : 8 ≤ j) : s.predWord.getLsbD j = false := by
  simp only [State.predWord, BitVec.getLsbD_or, getLsbD_bitAt]
  grind

theorem State.getE_setPred (s : State) (v : Word) (i : EReg) : (s.setPred v).getE i = v.getLsbD i.val := by
  fin_cases i <;> rfl

end Sys2Proof.Machine
end

section
/-! What commands write and leave alone (10_state.md R21 to R27), and the invariant of the points (R26), read off the effects
of the commands. -/

namespace Sys2Proof.Machine

open Sys2Proof.Config (curve)
open Sys2Proof.Safety

/-! ### Which file a command writes -/

/-- No command writes a control register but the error latch. -/
theorem effect_sameControl {i : Instr} {s t : State} (h : Effect i s t) : SameControl s t := by
  cases h with
  | error => exact sameControl_latch s _ _
  | _ => exact sameControl_refl s

/-- The commands with a destination in `F`, by their opcodes. -/
theorem opcode_mem_fieldOpcodes {i : Instr} (h : fieldDests i ≠ []) : i.opcode ∈ fieldOpcodes := by
  cases i
  case nop | fisz | feq | fissq | fsgn0 | pand | por | pxor | pxnor | pnot | pset | qlift | qinf | qisinf
      | qadd | qdbl | h2c => exact absurd rfl h
  all_goals exact of_decide_eq_true rfl

/-- Settles O53: each file is named by the one kind of effect that writes it. -/
theorem onlyTheNamedCommandsWriteEachFile : Obligations.OnlyTheNamedCommandsWriteEachFile := by
  intro i s t h
  have he := exec_effect h
  refine ⟨fun hf => ?_, fun he' => ?_, fun hq => ?_, fun hub => ?_, effect_sameControl he⟩
  · cases he with
    | field _ _ hd => exact opcode_mem_fieldOpcodes (hd ▸ List.cons_ne_nil _ _)
    | pair _ _ _ _ hd => exact opcode_mem_fieldOpcodes (hd ▸ List.cons_ne_nil _ _)
    | wipe hi => subst hi; decide
    | error => exact absurd (State.latch_f ..) hf
    | _ => exact absurd rfl hf
  · cases he with
    | predicate _ _ hi => exact hi
    | wipe hi => subst hi; decide
    | error => exact absurd (State.latch_e ..) he'
    | _ => exact absurd rfl he'
  · cases he with
    | point _ _ hi => exact hi
    | wipe hi => subst hi; decide
    | error => exact absurd (State.latch_q ..) hq
    | _ => exact absurd rfl hq
  · cases he with
    | wipe hi => exact hi
    | error => exact absurd (State.latch_ub ..) hub
    | _ => exact absurd rfl hub

/-! ### Reduced field values (10_state.md R23) -/

/-- After a write of `F[d]`, each register holds the value written or what it held. -/
theorem State.getF_setF (s : State) (d j : FReg) (v : Reg) : (s.setF d v).getF j = if j = d then v else s.getF j := by
  split
  · next h => subst h; exact s.getF_setF_self j v
  · next h => exact s.getF_setF_of_ne h v

theorem effect_fieldDest_lt {i : Instr} {s t : State} {j : FReg} (h : Effect i s t) (hs : PointsOk s)
    (hj : j ∈ fieldDests i) : (t.getF j).toNat < curve.p := by
  cases h with
  | field d v hd hv =>
    obtain rfl : j = d := by simpa [hd] using hj
    rw [State.getF_setF_self]; exact hv hs
  | pair d b v w hd hv hw =>
    rw [hd] at hj
    rw [State.getF_setF, State.getF_setF]
    split
    · exact hw
    · next hb => rw [if_pos (by simpa [hb] using hj)]; exact hv
  | wipe => rw [State.getF_of_replicate rfl]; exact curve_p_pos
  | nothing hi => subst hi; cases hj
  | predicate _ _ _ hd => rw [hd] at hj; cases hj
  | point _ _ _ hd => rw [hd] at hj; cases hj
  | error hd => rw [hd] at hj; cases hj

theorem effect_getF_of_not_dest {i : Instr} {s t : State} {j : FReg} (h : Effect i s t) (hj : j ∉ fieldDests i) :
    t.getF j = s.getF j := by
  cases h with
  | field d v hd =>
    exact s.getF_setF_of_ne (by simpa [hd] using hj) v
  | pair d b v w hd =>
    simp only [hd, List.mem_cons, List.not_mem_nil, or_false, not_or] at hj
    rw [State.getF_setF, State.getF_setF, if_neg hj.2, if_neg hj.1]
  | wipe hi => subst hi; exact absurd (List.mem_finRange j) hj
  | error => exact State.getF_congr (State.latch_f ..) j
  | _ => rfl

/-- Settles O52: the values are reduced by the effect's own clause, and a register that is no destination is not written. -/
theorem commandsWriteReducedFieldValues : Obligations.CommandsWriteReducedFieldValues :=
  fun _ _ _ _ hs h => ⟨effect_fieldDest_lt (exec_effect h) hs, effect_getF_of_not_dest (exec_effect h)⟩

/-! ### The points stay on the curve (10_state.md R26) -/

theorem pointsOk_congr {s t : State} (h : PointsOk s) (hq : t.q = s.q) : PointsOk t :=
  fun n => State.getQ_congr hq n ▸ h n

theorem pointsOk_of_replicate {s : State} (hq : s.q = Vector.replicate 4 Point.identity) : PointsOk s :=
  fun n => State.getQ_of_replicate hq n ▸ pointOk_identity

theorem pointsOk_setQ {s : State} (h : PointsOk s) (d : QReg) {P : Point} (hP : PointOk P) : PointsOk (s.setQ d P) := by
  intro n
  by_cases hn : n = d
  · subst hn; rwa [State.getQ_setQ_self]
  · rw [State.getQ_setQ_of_ne s hn]; exact h n

theorem effect_pointsOk {i : Instr} {s t : State} (he : Effect i s t) (h : PointsOk s) : PointsOk t := by
  cases he with
  | point d P _ _ hP => exact pointsOk_setQ h d (hP h)
  | wipe => exact pointsOk_of_replicate rfl
  | error => exact pointsOk_congr h (State.latch_q ..)
  | _ => exact pointsOk_congr h rfl

theorem engineCycle_pointsOk {s t : State} (hc : engineCycle s = .next t) (h : PointsOk s) : PointsOk t := by
  obtain ⟨-, rfl⟩ | ⟨-, -, rfl⟩ | ⟨-, -, i, u, -, hu, rfl⟩ := engineCycle_cases hc
  · exact h
  · exact pointsOk_congr h rfl
  · exact pointsOk_congr (effect_pointsOk (exec_effect hu) h) rfl

theorem State.issue_q (s : State) (w : Word) : (s.issue w).q = s.q := by
  obtain ⟨-, h⟩ | ⟨-, -, h⟩ | ⟨-, -, -, h⟩ | ⟨-, -, -, h⟩ := s.issue_cases w <;> rw [h]
  · exact s.latch_q _ _
  · exact s.latch_q _ _
  · rfl

/-- The host cannot write `Q`: a window write leaves it, or resets the engine (20_memory.md R53). -/
theorem State.memWrite_q (s : State) (off : Nat) (v : Word) :
    (s.memWrite off v).q = s.q ∨ s.memWrite off v = s.resetEngine := by
  obtain h | h | h | h | ⟨-, h⟩ | ⟨-, h | ⟨i, k, h⟩ | ⟨m, h⟩⟩ := s.memWrite_cases off v <;> rw [h]
  · exact .inl rfl
  · exact .inl (s.issue_q v)
  · obtain hr | ⟨-, hr⟩ := s.writeCtrl_cases v <;> rw [hr]
    · exact .inr rfl
    · exact .inl rfl
  · rw [State.writeStatus_eq]; exact .inl rfl
  · exact .inl (s.latch_q _ _)
  · exact .inl rfl
  · exact .inl rfl
  · exact .inl rfl

/-- Settles O48: the host cannot write `Q`, and every command that does writes a point of the curve. -/
theorem everyStepKeepsThePointsOnTheCurve : Obligations.EveryStepKeepsThePointsOnTheCurve := by
  intro s t hs hst
  obtain ⟨es, -, hc | ⟨off, rfl⟩ | ⟨off, v, rfl⟩ | rfl⟩ := step_cases hst
  all_goals have h : PointsOk (s.withSchedule es) := pointsOk_congr hs rfl
  · exact engineCycle_pointsOk hc h
  · obtain hr | hr := (s.withSchedule es).memRead_cases off <;> rw [hr] <;> exact pointsOk_congr h rfl
  · obtain hq | hr := (s.withSchedule es).memWrite_q off v
    · exact pointsOk_congr h hq
    · rw [hr]; exact pointsOk_of_replicate rfl
  · exact pointsOk_of_replicate rfl

end Sys2Proof.Machine
end

section
/-! The control invariant (10_state.md R33 to R39, 60_exceptions.md R200) is kept by every operation, and so by every
step. -/

namespace Sys2Proof.Machine

open Sys2Proof.Safety

/-- The fields of which the control invariant speaks. -/
def State.controlView (s : State) : Bool × Word × Word × Nat × Bool × ErrCode × Word :=
  (s.busy, s.lastCmd, s.pending, s.cnt, s.err, s.errCode, s.errInfo)

/-- The control invariant reads nothing but those fields. -/
theorem controlOk_congr {s t : State} (h : ControlOk s) (hv : t.controlView = s.controlView) : ControlOk t := by
  simp only [State.controlView, Prod.mk.injEq] at hv
  obtain ⟨hbusy, hlast, hpend, hcnt, herr, hcode, hinfo⟩ := hv
  obtain ⟨h1, h2, h3, h4, h5, h6⟩ := h
  constructor <;> simpa only [hbusy, hlast, hpend, hcnt, herr, hcode, hinfo]

theorem controlOk_reset : ControlOk State.reset where
  pendingLegal := nofun
  pendingLast := nofun
  cntBound := nofun
  cntIdle _ := rfl
  latchClear _ := ⟨rfl, rfl⟩
  latchSet := nofun

theorem controlOk_resetEngine (s : State) : ControlOk s.resetEngine := controlOk_congr controlOk_reset rfl

/-- Taking an error keeps the invariant: the code latched is a code (10_state.md R34). -/
theorem controlOk_latch {s : State} (h : ControlOk s) {code : ErrCode} (hc : code ≠ .none) (info : Word) :
    ControlOk (s.latch code info) where
  pendingLegal := by simpa using h.pendingLegal
  pendingLast := by simpa using h.pendingLast
  cntBound := by simpa using h.cntBound
  cntIdle := by simpa using h.cntIdle
  latchClear := by simp
  latchSet _ := by
    rw [State.latch_errCode]
    split
    · next he => exact h.latchSet he
    · exact hc

theorem controlOk_clearErr {s : State} (h : ControlOk s) : ControlOk s.clearErr where
  pendingLegal := h.pendingLegal
  pendingLast := h.pendingLast
  cntBound := h.cntBound
  cntIdle := h.cntIdle
  latchClear _ := ⟨rfl, rfl⟩
  latchSet := nofun

/-- A legal word enters flight with its latency to count (10_state.md R38 case (d)). -/
theorem controlOk_accept {s : State} (h : ControlOk s) {w : Word} (hw : legal w = true) : ControlOk (s.accept w) where
  pendingLegal _ := hw
  pendingLast _ := rfl
  cntBound _ := le_rfl
  cntIdle := nofun
  latchClear := h.latchClear
  latchSet := h.latchSet

theorem controlOk_countDown {s : State} (h : ControlOk s) (hb : s.busy = true) : ControlOk s.countDown where
  pendingLegal := h.pendingLegal
  pendingLast := h.pendingLast
  cntBound _ := (Nat.sub_le _ _).trans (h.cntBound hb)
  cntIdle hi := absurd (hb.symm.trans hi) nofun
  latchClear := h.latchClear
  latchSet := h.latchSet

theorem controlOk_retire {s : State} (h : ControlOk s) (hc : s.cnt = 0) : ControlOk s.retire where
  pendingLegal := nofun
  pendingLast := nofun
  cntBound := nofun
  cntIdle _ := hc
  latchClear := h.latchClear
  latchSet := h.latchSet

theorem effect_controlOk {i : Instr} {s t : State} (he : Effect i s t) (h : ControlOk s) : ControlOk t := by
  cases he with
  | error => exact controlOk_latch h (by decide) _
  | _ => exact controlOk_congr h rfl

theorem engineCycle_controlOk {s t : State} (hc : engineCycle s = .next t) (h : ControlOk s) : ControlOk t := by
  obtain ⟨-, rfl⟩ | ⟨hb, -, rfl⟩ | ⟨-, hcnt, i, u, -, hu, rfl⟩ := engineCycle_cases hc
  · exact h
  · exact controlOk_countDown h hb
  · have he := exec_effect hu
    obtain ⟨-, -, -, -, -, hcntu, -⟩ := effect_sameControl he
    exact controlOk_retire (effect_controlOk he h) (hcntu.trans hcnt)

theorem controlOk_issue {s : State} (h : ControlOk s) (w : Word) : ControlOk (s.issue w) := by
  obtain ⟨-, hw⟩ | ⟨-, -, hw⟩ | ⟨-, -, -, hw⟩ | ⟨-, -, hl, hw⟩ := s.issue_cases w <;> rw [hw]
  · exact controlOk_latch h (by decide) w
  · exact h
  · exact controlOk_congr (controlOk_latch h (by decide) w) rfl
  · exact controlOk_accept h hl

theorem controlOk_writeCtrl {s : State} (h : ControlOk s) (v : Word) : ControlOk (s.writeCtrl v) := by
  obtain hr | ⟨-, hr⟩ := s.writeCtrl_cases v <;> rw [hr]
  · exact controlOk_resetEngine s
  · exact controlOk_congr h rfl

theorem controlOk_writeStatus {s : State} (h : ControlOk s) (v : Word) : ControlOk (s.writeStatus v) := by
  have hd : ControlOk (if v.getLsbD 1 then s.clearDone else s) := by
    split
    · exact controlOk_congr h rfl
    · exact h
  unfold State.writeStatus
  dsimp only
  split
  · exact controlOk_clearErr hd
  · exact hd

theorem controlOk_memRead {s : State} (h : ControlOk s) (off : Nat) : ControlOk (s.memRead off) := by
  obtain hr | hr := s.memRead_cases off <;> rw [hr] <;> exact controlOk_congr h rfl

theorem controlOk_memWrite {s : State} (h : ControlOk s) (off : Nat) (v : Word) : ControlOk (s.memWrite off v) := by
  obtain hw | hw | hw | hw | ⟨-, hw⟩ | ⟨-, hw | ⟨i, k, hw⟩ | ⟨m, hw⟩⟩ := s.memWrite_cases off v <;> rw [hw]
  · exact h
  · exact controlOk_issue h v
  · exact controlOk_writeCtrl h v
  · exact controlOk_writeStatus h v
  · exact controlOk_latch h (by decide) _
  all_goals exact controlOk_congr h rfl

/-- Settles O47: an engine cycle, a read, a write and a reset each keep the invariant. -/
theorem everyStepKeepsTheControlInvariant : Obligations.EveryStepKeepsTheControlInvariant := by
  intro s t hs hst
  obtain ⟨es, -, hc | ⟨off, rfl⟩ | ⟨off, v, rfl⟩ | rfl⟩ := step_cases hst
  all_goals have h : ControlOk (s.withSchedule es) := controlOk_congr hs rfl
  · exact engineCycle_controlOk hc h
  · exact controlOk_memRead h off
  · exact controlOk_memWrite h off v
  · exact controlOk_resetEngine _

/-- Settles O49: the values of reset, of the control registers and of the points. -/
theorem invariantsHoldAfterReset : Obligations.InvariantsHoldAfterReset :=
  ⟨controlOk_reset, pointsOk_of_replicate rfl⟩

end Sys2Proof.Machine
end

section
/-! The control registers in the window (10_state.md R29 to R38): what is read at their offsets and what a write there
does. -/

namespace Sys2Proof.Machine

open Sys2Proof.Safety

/-- Settles O3: `ID`, `ERRCODE` and `ERRINFO` are slots that define their values, and their writes are ignored. -/
theorem readOnlyRegistersReadTheirValues : Obligations.ReadOnlyRegistersReadTheirValues := by
  intro s v
  have hcode : (s.memRead 0x010).rdata = some s.errCode.code := s.rdata_memRead_control rfl
  refine ⟨s.rdata_memRead_control rfl, s.rdata_memRead_control rfl, ?_, ?_, ?_, ?_, ?_,
    rfl, rfl, rfl⟩
  all_goals intro h; rw [hcode, h]; rfl

/-- Settles O4: the two cases of a `CTRL` write, and `IRQ_EN` read back in bit 0. -/
theorem ctrlWriteSetsEnableOrResets : Obligations.CtrlWriteSetsEnableOrResets := by
  refine ⟨rfl, fun s v => ?_⟩
  have hwrite : s.memWrite 0x004 v = s.writeCtrl v := s.memWrite_ctrl rfl v
  have hread : (s.memRead 0x004).rdata = some (bitAt 0 s.irqEn) := s.rdata_memRead_control rfl
  refine ⟨fun h => ?_, fun h => ?_, fun h => ?_, fun h => ?_⟩
  · rw [hwrite, State.writeCtrl_srst s h]; exact atReset_resetEngine s
  · rw [hwrite, State.writeCtrl_enable s h]; rfl
  · rw [hread, h]; rfl
  · rw [hread, h]; rfl

/-- Settles O5: `STATUS` bit by bit, and the fields a write leaves. -/
theorem statusReadsItsBitsAndWritesClear : Obligations.StatusReadsItsBitsAndWritesClear := by
  intro s v
  have hread : (s.memRead 0x008).rdata = some s.statusWord := s.rdata_memRead_control rfl
  rw [s.memWrite_status rfl, State.writeStatus_eq]
  refine ⟨⟨_, hread, ?_, ?_, ?_, fun i hi => ?_⟩, rfl, rfl, fun h => ?_, fun h => ?_, ⟨rfl, rfl, rfl, rfl⟩,
    sameControl_refl _⟩
  · rw [State.statusWord_getLsbD]; simp
  · rw [State.statusWord_getLsbD]; simp
  · rw [State.statusWord_getLsbD]; simp
  · rw [State.statusWord_getLsbD]; grind
  · rw [h]; exact ⟨rfl, rfl⟩
  · rw [h]; exact ⟨rfl, rfl⟩

/-- Settles O6: `PRED` bit by bit while idle, a `BUSYWRITE` and a free read while busy. -/
theorem predReadsAndWritesThePredicates : Obligations.PredReadsAndWritesThePredicates := by
  refine ⟨State.getE_of_replicate rfl, fun s v => ?_⟩
  have hwrite := s.memWrite_pred (off := 0x018) rfl v
  refine ⟨fun hb => ?_, fun hb => ?_, fun hb => ?_, fun hb => ?_⟩
  · have hread : (s.memRead 0x018).rdata = some s.predWord := State.rdata_memRead_idle hb 0x018
    exact ⟨_, hread, s.predWord_getLsbD, fun _ => s.predWord_getLsbD_of_le⟩
  · rw [hwrite, State.operandWrite_idle hb]
    exact ⟨s.getE_setPred v, rfl, rfl, rfl, ⟨rfl, rfl, rfl⟩, sameControl_refl s⟩
  · rw [hwrite, State.operandWrite_busy hb]
    exact errorTaken_latch s _ _
  · rw [State.memRead_busy hb rfl]
    exact ⟨⟨_, rfl⟩, ⟨rfl, rfl, rfl, rfl⟩, ⟨rfl, rfl, rfl⟩, rfl, rfl, rfl, rfl, rfl, rfl⟩

/-- Settles O7: the cases of R38 in their order. -/
theorem issueIsDecidedInOrder : Obligations.IssueIsDecidedInOrder := by
  intro s w
  rw [s.memWrite_cmd rfl]
  refine ⟨s.rdata_memRead_control rfl, fun hb => ?_, fun hb he => ?_, fun hb he hl => ?_,
    fun hb he hl => ?_⟩
  · rw [State.issue_busy hb]; exact errorTaken_latch s _ _
  · exact State.issue_err hb he w
  · rw [State.issue_illegal hb he hl]; simp [State.reject, State.latch, he]
  · exact State.issue_legal hb he hl

end Sys2Proof.Machine
end

section
/-! The engine's cycle seen from the step (10_state.md R39), and the interrupt output (R40), which only the host or a reset
takes down. -/

namespace Sys2Proof.Machine

open Sys2Proof.Safety

/-! ### The engine's turn -/

/-- With an empty schedule or a cycle at its head, the step is the engine's cycle (log 5, log 6). -/
theorem step_engineTurn {s s' : State}
    (h : (s.schedule = [] ∧ s' = s) ∨ ∃ es, s.schedule = .cycle :: es ∧ s' = s.withSchedule es) :
    step s = engineCycle s' := by
  obtain ⟨hs, rfl⟩ | ⟨es, hs, rfl⟩ := h
  · exact step_nil hs
  · exact step_cons hs

/-- Settles O19: the three cases of the engine's cycle. -/
theorem stepRunsTheDecodedCommand : Obligations.StepRunsTheDecodedCommand := by
  intro s s' hturn
  have hstep : step s = engineCycle s' := step_engineTurn hturn
  obtain ⟨hbusy, hcnt, hpend⟩ : s'.busy = s.busy ∧ s'.cnt = s.cnt ∧ s'.pending = s.pending := by
    obtain ⟨-, rfl⟩ | ⟨es, -, rfl⟩ := hturn <;> exact ⟨rfl, rfl, rfl⟩
  refine ⟨fun hb => ?_, fun hb hc => ?_, fun i hb hc hi => ?_⟩
  · rw [hstep, engineCycle_idle (hbusy.trans hb)]
  · rw [hstep, engineCycle_count (hbusy.trans hb) (by omega), State.countDown, hcnt]
  · obtain ⟨t, ht⟩ := exec_next i s'
    refine ⟨t, ht, ?_⟩
    rw [hstep, engineCycle_due (hbusy.trans hb) (hcnt.trans hc), complete_of_decode (hpend ▸ hi), completeWith_eq_next ht]
    rfl

/-! ### The interrupt output (10_state.md R40) -/

theorem State.irq_iff (s : State) : s.irq = true ↔ s.irqEn = true ∧ (s.done = true ∨ s.err = true) := by
  simp [State.irq]

/-- The interrupt stays up while `IRQ_EN` stays and neither cause is cleared. -/
theorem State.irq_of_irq {s t : State} (hen : t.irqEn = s.irqEn) (hdone : s.done = true → t.done = true)
    (herr : s.err = true → t.err = true) (h : s.irq = true) : t.irq = true := by
  rw [State.irq_iff] at h ⊢
  exact ⟨hen.trans h.1, h.2.imp hdone herr⟩

/-- `irq` reads three bits alone. -/
theorem State.irq_congr {s t : State} (hen : t.irqEn = s.irqEn) (hdone : t.done = s.done) (herr : t.err = s.err)
    (h : s.irq = true) : t.irq = true :=
  State.irq_of_irq hen hdone.trans herr.trans h

theorem State.irq_latch {s : State} (h : s.irq = true) (code : ErrCode) (info : Word) : (s.latch code info).irq = true :=
  State.irq_of_irq (s.latch_irqEn _ _) (s.latch_done _ _).trans (fun _ => s.latch_err _ _) h

theorem effect_irq {i : Instr} {s t : State} (he : Effect i s t) (h : s.irq = true) : t.irq = true := by
  cases he with
  | error => exact State.irq_latch h _ _
  | _ => exact h

theorem engineCycle_irq {s t : State} (hc : engineCycle s = .next t) (h : s.irq = true) : t.irq = true := by
  obtain ⟨-, rfl⟩ | ⟨-, -, rfl⟩ | ⟨-, -, i, u, -, hu, rfl⟩ := engineCycle_cases hc
  · exact h
  · exact h
  · exact State.irq_of_irq (s := u) rfl (fun _ => rfl) id (effect_irq (exec_effect hu) h)

theorem State.irq_issue {s : State} (h : s.irq = true) (w : Word) : (s.issue w).irq = true := by
  obtain ⟨-, hw⟩ | ⟨-, -, hw⟩ | ⟨-, -, -, hw⟩ | ⟨-, -, -, hw⟩ := s.issue_cases w <;> rw [hw]
  · exact State.irq_latch h _ _
  · exact h
  · exact State.irq_of_irq (s := s.latch .illegal w) rfl (fun _ => rfl) id (State.irq_latch h _ _)
  · exact h

theorem State.irq_memRead {s : State} (h : s.irq = true) (off : Nat) : (s.memRead off).irq = true := by
  obtain hr | hr := s.memRead_cases off <;> rw [hr] <;> exact h

theorem State.irq_memWrite {s : State} (h : s.irq = true) {off : Nat} (hctrl : slotAt off ≠ .ctrl)
    (hstatus : slotAt off ≠ .status) (v : Word) : (s.memWrite off v).irq = true := by
  obtain hw | hw | ⟨t, hw, ht⟩ := s.memWrite_cases_of_ne hctrl hstatus v <;> rw [hw]
  · exact h
  · exact State.irq_issue h v
  · unfold State.operandWrite
    split
    · exact State.irq_latch h _ _
    · obtain rfl | ⟨_, _, rfl⟩ | ⟨_, rfl⟩ := ht <;> exact h

/-- A host access that takes the interrupt down is a write of `STATUS` or of `CTRL`. -/
theorem hostAccess_irq_down {a : Access} {s t : State} (ha : hostAccess a s = .next t) (h : s.irq = true)
    (ht : t.irq = false) : ∃ v, a = .write (Config.base + 0x008) 4 v ∨ a = .write (Config.base + 0x004) 4 v := by
  obtain ⟨addr, -, -, -, rfl⟩ | ⟨addr, v, rfl, hw, -, rfl⟩ := hostAccess_cases ha
  · rw [State.irq_memRead h] at ht; cases ht
  · by_cases hctrl : slotAt (addr - Config.base) = .ctrl
    · exact ⟨v, .inr (by rw [addr_eq_of_inWindow hw ((slotAt_eq_ctrl_iff _).mp hctrl)])⟩
    · by_cases hstatus : slotAt (addr - Config.base) = .status
      · exact ⟨v, .inl (by rw [addr_eq_of_inWindow hw ((slotAt_eq_status_iff _).mp hstatus)])⟩
      · rw [State.irq_memWrite h hctrl hstatus] at ht; cases ht

/-- Settles O9: neither an engine cycle nor a read nor another write takes the interrupt down. -/
theorem interruptIsHeldUntilTheHostClearsIt : Obligations.InterruptIsHeldUntilTheHostClearsIt := by
  refine ⟨State.irq_iff, rfl, fun s t hs hst ht => ?_⟩
  cases hsch : s.schedule with
  | nil =>
    rw [step_nil hsch] at hst
    rw [engineCycle_irq hst hs] at ht; cases ht
  | cons e es =>
    rw [step_cons hsch] at hst
    cases e with
    | access a =>
      obtain ⟨v, rfl | rfl⟩ := hostAccess_irq_down hst (State.irq_congr rfl rfl rfl hs) ht
      · exact ⟨es, .inr ⟨v, .inl rfl⟩⟩
      · exact ⟨es, .inr ⟨v, .inr rfl⟩⟩
    | cycle => rw [engineCycle_irq hst (State.irq_congr rfl rfl rfl hs)] at ht; cases ht
    | hardReset => exact ⟨es, .inl rfl⟩

end Sys2Proof.Machine
end

section
/-! The command in flight (10_state.md R39): `Execute` writes operand state as a function of operand state alone, and no window
access but a soft reset changes that or the word in flight while busy (20_memory.md R56, R58, 60_exceptions.md R204, R205). -/

namespace Sys2Proof.Machine

open Sys2Proof.Safety

/-! ### States with the same operand state -/

section
variable {s s' : State} (h : SameOperands s s')
include h

theorem sameOperands_getF (i : FReg) : s'.getF i = s.getF i := State.getF_congr h.1 i

theorem sameOperands_fv (i : FReg) : s'.fv i = s.fv i := State.fv_congr h.1 i

theorem sameOperands_raw (i : FReg) : s'.raw i = s.raw i := congrArg BitVec.toNat (sameOperands_getF h i)

theorem sameOperands_getE (i : EReg) : s'.getE i = s.getE i := State.getE_congr h.2.1 i

theorem sameOperands_getQ (i : QReg) : s'.getQ i = s.getQ i := State.getQ_congr h.2.2.1 i

theorem sameOperands_half (j : Half) : s'.half j = s.half j := by
  rw [State.half, State.half, h.2.2.2]

theorem sameOperands_setF (d : FReg) {v w : Reg} (hv : w = v) : SameOperands (s.setF d v) (s'.setF d w) := by
  obtain ⟨hf, he, hq, hub⟩ := h
  exact ⟨by simp [hf, hv], he, hq, hub⟩

theorem sameOperands_writeField (d : FReg) {m n : Nat} (hn : n = m) :
    SameOperands (s.writeField d m) (s'.writeField d n) :=
  sameOperands_setF h d (congrArg _ hn)

theorem sameOperands_setE (d : EReg) {b b' : Bool} (hb : b' = b) : SameOperands (s.setE d b) (s'.setE d b') := by
  obtain ⟨hf, he, hq, hub⟩ := h
  exact ⟨hf, by simp [he, hb], hq, hub⟩

theorem sameOperands_setQ (d : QReg) {P P' : Point} (hP : P' = P) : SameOperands (s.setQ d P) (s'.setQ d P') := by
  obtain ⟨hf, he, hq, hub⟩ := h
  exact ⟨hf, he, by simp [hq, hP], hub⟩

theorem sameOperands_raise (code : ErrCode) : SameOperands (s.raise code) (s'.raise code) := by
  simpa [SameOperands, State.raise] using h

/-- `QLIFT` reads and writes operand state alone. -/
theorem execQlift_sameOperands {t : State} (d : QReg) (a b : FReg) (ht : execQlift d a b s = .next t) :
    ∃ u, execQlift d a b s' = .next u ∧ SameOperands t u := by
  unfold execQlift at ht ⊢
  rw [sameOperands_raw h, sameOperands_raw h]
  split at ht
  · cases ht; exact ⟨_, rfl, sameOperands_setQ h d rfl⟩
  · cases ht; exact ⟨_, rfl, sameOperands_raise h _⟩

/-- `H2C` reads and writes operand state alone. -/
theorem execH2c_sameOperands {t : State} (d : QReg) (ht : execH2c d s = .next t) :
    ∃ u, execH2c d s' = .next u ∧ SameOperands t u := by
  unfold execH2c at ht ⊢
  simp only [sameOperands_half h] at ht ⊢
  split at ht
  · next hc => cases ht; rw [if_pos hc]; exact ⟨_, rfl, sameOperands_raise h _⟩
  · next hc => cases ht; rw [if_neg hc]; exact ⟨_, rfl, sameOperands_setQ h d rfl⟩

/-- Every command writes operand state as a function of operand state alone. -/
theorem exec_sameOperands {i : Instr} {t : State} (ht : exec i s = .next t) :
    ∃ u, exec i s' = .next u ∧ SameOperands t u := by
  cases i
  case qlift d a b => exact execQlift_sameOperands h d a b ht
  case h2c d => exact execH2c_sameOperands h d ht
  all_goals cases ht; refine ⟨_, rfl, ?_⟩
  case nop => exact h
  case zero => exact ⟨rfl, rfl, rfl, rfl⟩
  case swu =>
    exact sameOperands_writeField (sameOperands_writeField h _ (by rw [sameOperands_fv h])) _
      (by rw [sameOperands_fv h])
  case qgetx | qgety => exact sameOperands_setF h _ (by rw [sameOperands_getQ h])
  case qinf | qadd | qdbl => exact sameOperands_setQ h _ (by simp only [sameOperands_getQ h])
  case fadd | fsub | fneg | fmul | fsqr | finv | fdiv | fexp | fsqrt | fmov | fldk | fldu | fcmov =>
    exact sameOperands_writeField h _
      (by simp only [sameOperands_fv h, sameOperands_raw h, sameOperands_half h, sameOperands_getE h])
  all_goals
    exact sameOperands_setE h _
      (by simp only [State.isZero, State.isEqual, State.isSq, State.parity, sameOperands_fv h, sameOperands_getE h,
        sameOperands_getQ h])

/-- With the same word in flight the completion step writes the same operand state, and retires. -/
theorem complete_sameOperands {t : State} (hp : s'.pending = s.pending) (ht : complete s = .next t) :
    ∃ u, complete s' = .next u ∧ SameOperands t u ∧ u.busy = false ∧ u.done = true := by
  unfold complete at ht ⊢
  rw [hp]
  split at ht
  · next i _ =>
    obtain ⟨v, hv⟩ := exec_next i s
    obtain ⟨u, hu, hvu⟩ := exec_sameOperands h hv
    rw [completeWith_eq_next hv] at ht
    cases ht
    exact ⟨u.retire, completeWith_eq_next hu, hvu, rfl, rfl⟩
  · cases ht

end

/-! ### Accesses while busy -/

theorem sameOperands_memRead (s : State) (off : Nat) : SameOperands s (s.memRead off) := by
  obtain hr | hr := s.memRead_cases off <;> rw [hr] <;> exact ⟨rfl, rfl, rfl, rfl⟩

theorem State.memRead_pending (s : State) (off : Nat) : (s.memRead off).pending = s.pending := by
  obtain hr | hr := s.memRead_cases off <;> rw [hr] <;> rfl

/-- While busy a write changes neither operand state nor the word in flight, unless it is a soft reset. -/
theorem memWrite_busy_keeps_inFlight {s : State} (hb : s.busy = true) (off : Nat) (v : Word)
    (hv : slotAt off ≠ .ctrl ∨ v.getLsbD 1 = false) :
    SameOperands s (s.memWrite off v) ∧ (s.memWrite off v).pending = s.pending := by
  by_cases hctrl : slotAt off = .ctrl
  · rw [s.memWrite_ctrl hctrl, s.writeCtrl_enable (hv.resolve_left (absurd hctrl))]
    exact ⟨⟨rfl, rfl, rfl, rfl⟩, rfl⟩
  by_cases hstatus : slotAt off = .status
  · rw [s.memWrite_status hstatus, s.writeStatus_eq]
    exact ⟨⟨rfl, rfl, rfl, rfl⟩, rfl⟩
  obtain hw | hw | ⟨t, hw, -⟩ := s.memWrite_cases_of_ne hctrl hstatus v <;> rw [hw]
  · exact ⟨⟨rfl, rfl, rfl, rfl⟩, rfl⟩
  · rw [State.issue_busy hb]
    exact ⟨sameOperands_latch s _ _, s.latch_pending _ _⟩
  · rw [State.operandWrite_busy hb]
    exact ⟨sameOperands_latch s _ _, s.latch_pending _ _⟩

/-- Settles O18: the access keeps the operand state and the word in flight, which fix the completion. -/
theorem accessesWhileBusyLeaveTheCommandInFlight : Obligations.AccessesWhileBusyLeaveTheCommandInFlight := by
  intro s off v t hb ht
  refine ⟨complete_sameOperands (sameOperands_memRead s off) (s.memRead_pending off) ht, fun hv => ?_⟩
  obtain ⟨hsame, hpend⟩ := memWrite_busy_keeps_inFlight hb off v hv
  exact complete_sameOperands hsame hpend ht

end Sys2Proof.Machine
end

section
/-! The window's map, range by range, and the words of field registers and uniform bytes (20_memory.md R50 to R54). -/

namespace Sys2Proof.Machine

/-! ### The map, by ranges (20_memory.md R50) -/

theorem slotAt_fieldRange {off : Nat} (hlo : 0x100 ≤ off) (hhi : off < 0x300) : ∃ i k, slotAt off = .f i k := by
  unfold slotAt
  repeat rw [if_neg (by omega)]
  rw [dif_pos ⟨hlo, hhi⟩]
  exact ⟨_, _, rfl⟩

theorem slotAt_uniformRange {off : Nat} (hlo : 0x500 ≤ off) (hhi : off < 0x560) : ∃ m, slotAt off = .ub m := by
  unfold slotAt
  repeat rw [if_neg (by omega)]
  rw [dif_neg (by omega), dif_neg (by omega), dif_pos ⟨hlo, hhi⟩]
  exact ⟨_, rfl⟩

/-- The `Q` range holds coordinates and flags up to `+0x40` of each point register, and nothing after. -/
theorem slotAt_pointRange {off : Nat} (hlo : 0x300 ≤ off) (hhi : off < 0x500) :
    ((off - 0x300) % 0x80 ≤ 0x40 ∧
      ((∃ n k, slotAt off = .qx n k) ∨ (∃ n k, slotAt off = .qy n k) ∨ ∃ n, slotAt off = .qinf n)) ∨
    (0x40 < (off - 0x300) % 0x80 ∧ slotAt off = .reserved) := by
  unfold slotAt
  repeat rw [if_neg (by omega)]
  rw [dif_neg (by omega), dif_pos ⟨hlo, hhi⟩]
  split
  · exact .inl ⟨by omega, .inl ⟨_, _, rfl⟩⟩
  split
  · exact .inl ⟨by omega, .inr (.inl ⟨_, _, rfl⟩)⟩
  split
  · exact .inl ⟨by omega, .inr (.inr ⟨_, rfl⟩)⟩
  · exact .inr ⟨by omega, rfl⟩

theorem slotAt_pointRange_reserved {off : Nat} (hlo : 0x300 ≤ off) (hhi : off < 0x500)
    (h : 0x40 < (off - 0x300) % 0x80) : slotAt off = .reserved := by
  obtain ⟨hle, -⟩ | ⟨-, hr⟩ := slotAt_pointRange hlo hhi
  · omega
  · exact hr

/-- The reserved offsets outside the `Q` range. -/
theorem slotAt_reservedRange {off : Nat} (h : (0x01C ≤ off ∧ off < 0x100) ∨ (0x560 ≤ off ∧ off < 0x1000)) :
    slotAt off = .reserved := by
  unfold slotAt
  repeat rw [if_neg (by omega)]
  rw [dif_neg (by omega), dif_neg (by omega), dif_neg (by omega)]

/-- The operand state, whose reads while busy are unspecified (20_memory.md R57). -/
theorem unspecifiedWhileBusy_operandRange {off : Nat}
    (h : (0x100 ≤ off ∧ off < 0x300) ∨ (0x500 ≤ off ∧ off < 0x560) ∨ off = 0x018 ∨
      (0x300 ≤ off ∧ off < 0x500 ∧ (off - 0x300) % 0x80 ≤ 0x40)) : (slotAt off).unspecifiedWhileBusy = true := by
  obtain ⟨hlo, hhi⟩ | ⟨hlo, hhi⟩ | rfl | ⟨hlo, hhi, hle⟩ := h
  · obtain ⟨i, k, hf⟩ := slotAt_fieldRange hlo hhi
    rw [hf]; rfl
  · obtain ⟨m, hub⟩ := slotAt_uniformRange hlo hhi
    rw [hub]; rfl
  · rfl
  · obtain ⟨-, ⟨n, k, hq⟩ | ⟨n, k, hq⟩ | ⟨n, hq⟩⟩ | ⟨hgt, -⟩ := slotAt_pointRange hlo hhi
    · rw [hq]; rfl
    · rw [hq]; rfl
    · rw [hq]; rfl
    · omega

/-- The control registers but `STATUS` and `PRED`, and the reserved offsets outside the `Q` range. -/
theorem slotAt_fixedRange {off : Nat} (ha : off % 4 = 0)
    (h : off < 0x018 ∧ off ≠ 0x008 ∨ (0x01C ≤ off ∧ off < 0x100) ∨ (0x560 ≤ off ∧ off < 0x1000)) :
    (slotAt off).unspecifiedWhileBusy = false ∧ slotAt off ≠ .status := by
  obtain ⟨hlt, hne⟩ | hres := h
  · obtain rfl | rfl | rfl | rfl | rfl : off = 0x000 ∨ off = 0x004 ∨ off = 0x00C ∨ off = 0x010 ∨ off = 0x014 := by omega
    all_goals exact ⟨rfl, nofun⟩
  · rw [slotAt_reservedRange hres]; exact ⟨rfl, nofun⟩

/-! ### The words of a field register (20_memory.md R51, R52) -/

/-- A bit of a value whose word `k` was replaced. -/
theorem getLsbD_withWord (r : Reg) (k : Fin 8) (v : Word) {i : Nat} (hi : i < 256) :
    (withWord r k v).getLsbD i =
      if 32 * k.val ≤ i ∧ i < 32 * k.val + 32 then v.getLsbD (i - 32 * k.val) else r.getLsbD i := by
  have hmask (j : Nat) (hj : j < 32) : (0xffffffff#32).getLsbD j = true := by
    rw [show (0xffffffff#32) = BitVec.allOnes 32 from rfl, BitVec.getLsbD_allOnes, decide_eq_true hj]
  simp only [withWord, BitVec.getLsbD_or, BitVec.getLsbD_and, BitVec.getLsbD_not, BitVec.getLsbD_shiftLeft,
    BitVec.getLsbD_setWidth]
  split
  · next h =>
    rw [hmask _ (by omega)]
    simp [hi, Nat.not_lt.mpr h.1, show i - 32 * k.val < 256 by omega]
  · next h =>
    by_cases hlt : i < 32 * k.val
    · simp [hi, hlt]
    · have hge : 32 ≤ i - 32 * k.val := by omega
      simp [hi, hge, BitVec.getLsbD_of_ge]

theorem wordOf_withWord_self (r : Reg) (k : Fin 8) (v : Word) : wordOf (withWord r k v) k = v := by
  refine BitVec.eq_of_getLsbD_eq fun i hi => ?_
  rw [wordOf, BitVec.getLsbD_extractLsb', getLsbD_withWord _ _ _ (by omega), if_pos (by omega)]
  simp [hi]

theorem wordOf_withWord_of_ne (r : Reg) {j k : Fin 8} (h : j ≠ k) (v : Word) :
    wordOf (withWord r k v) j = wordOf r j := by
  have hjk : j.val ≠ k.val := Fin.val_ne_of_ne h
  refine BitVec.eq_of_getLsbD_eq fun i hi => ?_
  rw [wordOf, wordOf, BitVec.getLsbD_extractLsb', BitVec.getLsbD_extractLsb', getLsbD_withWord _ _ _ (by omega),
    if_neg (by omega)]

/-! ### The words of the uniform bytes (20_memory.md R54) -/

theorem ubWord_withUbWord_self (ub : Vector Byte 96) (m : Fin 24) (v : Word) : ubWord (withUbWord ub m v) m = v := by
  have hbytes : ubWord (withUbWord ub m v) m =
      v.extractLsb' 24 8 ++ v.extractLsb' 16 8 ++ v.extractLsb' 8 8 ++ v.extractLsb' 0 8 := by
    simp [ubWord, withUbWord]
  rw [hbytes]
  refine BitVec.eq_of_getLsbD_eq fun i hi => ?_
  simp only [BitVec.getLsbD_append, BitVec.getLsbD_extractLsb']
  grind

theorem getElem_withUbWord_of_ne (ub : Vector Byte 96) {m : Fin 24} (v : Word) {j : Fin 96} (h : j.val / 4 ≠ m.val) :
    (withUbWord ub m v)[j.val] = ub[j.val] := by
  unfold withUbWord
  repeat rw [Vector.getElem_set_ne _ _ (by omega)]

end Sys2Proof.Machine
end

section
/-! What the window's reads and writes do at each offset, idle and busy (20_memory.md R50 to R57). -/

namespace Sys2Proof.Machine

open Sys2Proof.Safety

/-! ### Writes and reads, by slot -/

theorem State.memWrite_f (s : State) {off : Nat} {i : FReg} {k : Fin 8} (h : slotAt off = .f i k) (v : Word) :
    s.memWrite off v = s.operandWrite off (s.setFWord i k v) := by
  simp [State.memWrite, h]

theorem State.memWrite_ub (s : State) {off : Nat} {m : Fin 24} (h : slotAt off = .ub m) (v : Word) :
    s.memWrite off v = s.operandWrite off (s.setUbWord m v) := by
  simp [State.memWrite, h]

theorem State.memWrite_reserved (s : State) {off : Nat} (h : slotAt off = .reserved) (v : Word) :
    s.memWrite off v = s := by
  simp [State.memWrite, h]

/-- The host cannot write the `Q` range, busy or not (20_memory.md R53). -/
theorem State.memWrite_pointRange (s : State) {off : Nat} (hlo : 0x300 ≤ off) (hhi : off < 0x500) (v : Word) :
    s.memWrite off v = s := by
  obtain ⟨-, ⟨n, k, h⟩ | ⟨n, k, h⟩ | ⟨n, h⟩⟩ | ⟨-, h⟩ := slotAt_pointRange hlo hhi
  all_goals simp [State.memWrite, h]

/-- A write to operand state while busy takes `BUSYWRITE` with the offset (20_memory.md R56). -/
theorem State.memWrite_operandRange_busy {s : State} (hb : s.busy = true) {off : Nat}
    (h : (0x100 ≤ off ∧ off < 0x300) ∨ (0x500 ≤ off ∧ off < 0x560) ∨ off = 0x018) (v : Word) :
    s.memWrite off v = s.latch .busyWrite (BitVec.ofNat 32 off) := by
  obtain ⟨hlo, hhi⟩ | ⟨hlo, hhi⟩ | rfl := h
  · obtain ⟨i, k, hf⟩ := slotAt_fieldRange hlo hhi
    rw [s.memWrite_f hf, State.operandWrite_busy hb]
  · obtain ⟨m, hub⟩ := slotAt_uniformRange hlo hhi
    rw [s.memWrite_ub hub, State.operandWrite_busy hb]
  · rw [s.memWrite_pred rfl, State.operandWrite_busy hb]

/-- A read of a slot that defines its value draws no free value (log 4). -/
theorem State.draws_memRead_control (s : State) {off : Nat} (h : (slotAt off).unspecifiedWhileBusy = false) :
    (s.memRead off).draws = s.draws := by
  simp [State.memRead, h]

theorem State.draws_memRead_idle {s : State} (h : s.busy = false) (off : Nat) : (s.memRead off).draws = s.draws := by
  simp [State.memRead, h]

/-- `STATUS` alone shows `BUSY`. -/
theorem State.slotWord_of_busy (s : State) (b : Bool) {l : Slot} (h : l ≠ .status) :
    State.slotWord { s with busy := b } l = s.slotWord l := by
  cases l
  case status => exact absurd rfl h
  all_goals rfl

/-- A write of one word of `F[i]` changes no other register. -/
theorem onlyF_setF (s : State) (i : FReg) (r : Reg) : OnlyF s (s.setF i r) i :=
  ⟨fun _ hj => s.getF_setF_of_ne hj r, rfl, rfl, rfl, ⟨rfl, rfl, rfl⟩, sameControl_refl s⟩

/-! ### The statements -/

/-- Settles O10: the slot of the offset, and the words of a value with one word replaced. -/
theorem fieldRegistersReadAndWriteByWords : Obligations.FieldRegistersReadAndWriteByWords := by
  intro s i k v hb
  have hslot := slotAt_f i k
  have hwrite : s.memWrite (0x100 + 0x20 * i.val + 4 * k.val) v = s.setF i (withWord (s.getF i) k v) := by
    rw [s.memWrite_f hslot, State.operandWrite_idle hb, State.setFWord]
  refine ⟨?_, _, hwrite, ?_, fun j hj => ?_, onlyF_setF s i _⟩
  · rw [State.rdata_memRead_idle hb, hslot]; rfl
  · rw [State.getF_setF_self]; exact wordOf_withWord_self _ k v
  · rw [State.getF_setF_self]; exact wordOf_withWord_of_ne _ hj v

/-- Settles O11: the slot of the offset, and the bytes of `UB` with one word replaced. -/
theorem uniformBytesReadAndWriteByWords : Obligations.UniformBytesReadAndWriteByWords := by
  intro s m v hb
  have hslot := slotAt_ub m
  have hwrite : s.memWrite (0x500 + 4 * m.val) v = s.setUbWord m v := by
    rw [s.memWrite_ub hslot, State.operandWrite_idle hb]
  refine ⟨?_, _, hwrite, ubWord_withUbWord_self s.ub m v, fun j hj => getElem_withUbWord_of_ne s.ub v hj,
    rfl, rfl, rfl, ⟨rfl, rfl, rfl⟩, sameControl_refl s⟩
  rw [State.rdata_memRead_idle hb, hslot]; rfl

/-- Settles O12: every slot of the `Q` range ignores writes, and reads by the map. -/
theorem pointRegistersAreReadOnly : Obligations.PointRegistersAreReadOnly := by
  intro s n k off v
  refine ⟨fun hlo hhi => s.memWrite_pointRange hlo hhi v, fun hb => ⟨?_, ?_, ?_, fun r hlo hhi => ?_⟩⟩
  · rw [State.rdata_memRead_idle hb, slotAt_qx]; rfl
  · rw [show 0x300 + 0x80 * n.val + 0x20 + 4 * k.val = 0x320 + 0x80 * n.val + 4 * k.val by omega,
      State.rdata_memRead_idle hb, slotAt_qy]
    rfl
  · rw [show 0x300 + 0x80 * n.val + 0x40 = 0x340 + 0x80 * n.val by omega, State.rdata_memRead_idle hb, slotAt_qinf]
    rfl
  · rw [State.rdata_memRead_idle hb, slotAt_pointRange_reserved (by omega) (by omega) (by omega)]; rfl

/-- Settles O13: nothing stands at these offsets. -/
theorem reservedOffsetsReadZeroAndIgnoreWrites : Obligations.ReservedOffsetsReadZeroAndIgnoreWrites := by
  intro s off v h
  have hslot := slotAt_reservedRange h
  refine ⟨?_, s.memWrite_reserved hslot v⟩
  rw [s.rdata_memRead_control (by rw [hslot]; rfl), hslot]; rfl

/-- Settles O15: operand state takes `BUSYWRITE`, `CTRL` and `STATUS` take the write as while idle, `CMD` overruns, the rest
ignores it. -/
theorem writesWhileBusy : Obligations.WritesWhileBusy := by
  intro s off v hb _
  refine ⟨fun h => ?_, ?_, ?_, ?_, ?_, ?_⟩
  · rw [State.memWrite_operandRange_busy hb h]; exact errorTaken_latch s _ _
  · rintro rfl
    rw [s.memWrite_cmd rfl, State.issue_busy hb]; exact errorTaken_latch s _ _
  · rintro rfl h
    rw [s.memWrite_ctrl rfl, s.writeCtrl_srst h]; exact atReset_resetEngine s
  · rintro rfl h
    rw [s.memWrite_ctrl rfl, s.writeCtrl_enable h]; rfl
  · rintro rfl
    exact (statusReadsItsBitsAndWritesClear s v).2
  · rintro (rfl | rfl | rfl | h | ⟨hlo, hhi⟩ | h)
    · rfl
    · rfl
    · rfl
    · exact s.memWrite_reserved (slotAt_reservedRange (.inl h)) v
    · exact s.memWrite_pointRange hlo hhi v
    · exact s.memWrite_reserved (slotAt_reservedRange (.inr h)) v

/-- Settles O16: a slot answers a free value or its own, and `STATUS` alone shows `BUSY`. -/
theorem readsWhileBusy : Obligations.ReadsWhileBusy := by
  intro s off hb ha
  refine ⟨fun h => ?_, fun h => ?_, ?_, fun ⟨hlo, hhi, hgt⟩ => ?_⟩
  · rw [State.memRead_busy hb (unspecifiedWhileBusy_operandRange h)]; exact ⟨rfl, rfl⟩
  · obtain ⟨hfixed, hstatus⟩ := slotAt_fixedRange ha h
    refine ⟨?_, s.draws_memRead_control hfixed⟩
    rw [s.rdata_memRead_control hfixed, State.rdata_memRead_control _ hfixed, s.slotWord_of_busy false hstatus]
  · rintro rfl
    obtain ⟨⟨w, hread, hbusy, hdone, herr, hrest⟩, -⟩ := statusReadsItsBitsAndWritesClear s 0#32
    exact ⟨⟨w, hread, hbusy.trans hb, hdone, herr, hrest⟩, s.draws_memRead_control rfl⟩
  · have hslot := slotAt_pointRange_reserved hlo hhi hgt
    have hfixed : (slotAt off).unspecifiedWhileBusy = false := by rw [hslot]; rfl
    refine ⟨?_, s.draws_memRead_control hfixed⟩
    rw [s.rdata_memRead_control hfixed, hslot]; rfl

end Sys2Proof.Machine
end

section
/-! Which accesses the window takes (20_memory.md R50, R55), and what a step does with the access at the head of the schedule
(R61): it is performed, or it is the one thing that stops a step. -/

namespace Sys2Proof.Machine

open Host
open Sys2Proof.Safety

/-! ### An access, by its address and size -/

/-- The address of an access. -/
def Access.addr : Access → Nat
  | .read addr _ => addr
  | .write addr _ _ => addr

/-- The size of an access. -/
def Access.bytes : Access → Nat
  | .read _ bytes => bytes
  | .write _ bytes _ => bytes

/-- What an accepted access does at offset `off`. -/
def Access.effect (off : Nat) (s : State) : Access → State
  | .read _ _ => s.memRead off
  | .write _ _ v => s.memWrite off v

theorem Access.eq_read_or_write (a : Access) : a = .read a.addr a.bytes ∨ ∃ v, a = .write a.addr a.bytes v := by
  cases a with
  | read => exact .inl rfl
  | write _ _ v => exact .inr ⟨v, rfl⟩

/-- Reads and writes alike are a fault outside the window, refused by size and offset, and performed otherwise. -/
theorem hostAccess_eq (a : Access) (s : State) :
    hostAccess a s =
      if !inWindow a.addr then .fault (.outsideWindow a.addr)
      else if !accepted (a.addr - Config.base) a.bytes then .refused (.busError a.addr a.bytes)
      else .next (a.effect (a.addr - Config.base) s) := by
  cases a <;> rfl

theorem inWindow_eq_false_iff (addr : Nat) :
    inWindow addr = false ↔ ¬ (Config.base ≤ addr ∧ addr < Config.base + 4096) := by
  simp [inWindow]

theorem accepted_iff (off bytes : Nat) : accepted off bytes = true ↔ bytes = 4 ∧ off % 4 = 0 := by
  simp [accepted]

theorem accepted_eq_false_iff (off bytes : Nat) : accepted off bytes = false ↔ bytes ≠ 4 ∨ off % 4 ≠ 0 := by
  rw [← Bool.not_eq_true, accepted_iff, not_and_or]

theorem hostAccess_fault {a : Access} {s : State} {r : Fault} (h : hostAccess a s = .fault r) :
    inWindow a.addr = false ∧ r = .outsideWindow a.addr := by
  rw [hostAccess_eq] at h
  split at h
  · next hw => cases h; exact ⟨by simpa using hw, rfl⟩
  · split at h <;> cases h

theorem hostAccess_refused {a : Access} {s : State} {r : Refusal} (h : hostAccess a s = .refused r) :
    accepted (a.addr - Config.base) a.bytes = false ∧ r = .busError a.addr a.bytes := by
  rw [hostAccess_eq] at h
  split at h
  · cases h
  · split at h
    · next hacc => cases h; exact ⟨by simpa using hacc, rfl⟩
    · cases h

theorem inWindow_base_add {off : Nat} (h : off < 4096) : inWindow (Config.base + off) = true := by
  simp [inWindow, h]

/-- An access of the window, by its offset. -/
theorem hostAccess_at_offset {a : Access} {off : Nat} (h : off < 4096) (ha : a.addr = Config.base + off) (s : State) :
    hostAccess a s =
      if accepted off a.bytes then .next (a.effect off s) else .refused (.busError (Config.base + off) a.bytes) := by
  rw [hostAccess_eq, ha, inWindow_base_add h, Nat.add_sub_cancel_left]
  cases accepted off a.bytes <;> rfl

/-- Settles O14: an access of the window is refused by its size and offset alone. -/
theorem onlyAlignedWordAccessesAreAccepted : Obligations.OnlyAlignedWordAccessesAreAccepted := by
  refine ⟨⟨Config.basePage, rfl⟩, fun s off bytes v h => ⟨fun hbad => ?_, fun hbytes hoff => ?_⟩⟩
  · have hacc : accepted off bytes = false := (accepted_eq_false_iff off bytes).mpr hbad
    constructor <;> rw [hostAccess_at_offset h rfl, Access.bytes, hacc] <;> rfl
  · have hacc : accepted off bytes = true := (accepted_iff off bytes).mpr ⟨hbytes, hoff⟩
    constructor <;> rw [hostAccess_at_offset h rfl, Access.bytes, hacc] <;> rfl

/-- Settles O20: the step is the head event's effect, and an aligned access of the window is accepted. -/
theorem stepPerformsTheScheduledAccess : Obligations.StepPerformsTheScheduledAccess := by
  intro s off v es h hoff
  obtain ⟨hread, hwrite⟩ := (onlyAlignedWordAccessesAreAccepted.2 (s.withSchedule es) off 4 v h).2 rfl hoff
  refine ⟨fun hs => ?_, fun hs => ?_, fun hs => ?_⟩
  · rw [step_cons hs]; exact hread
  · rw [step_cons hs]; exact hwrite
  · exact ⟨_, step_cons hs, atReset_resetEngine _, rfl⟩

/-! ### What stops a step -/

/-- A legal word in flight always completes. -/
theorem complete_of_legal {s : State} (h : legal s.pending = true) : ∃ t, complete s = .next t := by
  obtain ⟨o, -, hdec⟩ := decode_of_legal h
  obtain ⟨u, hu⟩ := exec_next (o.build s.pending) s
  exact ⟨u.retire, (complete_of_decode hdec).trans (completeWith_eq_next hu)⟩

/-- Where only a legal word is in flight, an engine cycle always answers. -/
theorem engineCycle_of_controlOk {s : State} (h : ControlOk s) : ∃ t, engineCycle s = .next t := by
  cases hb : s.busy
  · exact ⟨s, engineCycle_idle hb⟩
  · by_cases hc : s.cnt = 0
    · rw [engineCycle_due hb hc]; exact complete_of_legal (h.pendingLegal hb)
    · exact ⟨_, engineCycle_count hb hc⟩

/-- Under the control invariant a step answers, or is a scheduled host access. -/
theorem step_next_or_hostAccess {s : State} (h : ControlOk s) :
    (∃ t, step s = .next t) ∨ ∃ a es, s.schedule = .access a :: es ∧ step s = hostAccess a (s.withSchedule es) := by
  cases hs : s.schedule with
  | nil => rw [step_nil hs]; exact .inl (engineCycle_of_controlOk h)
  | cons e es =>
    rw [step_cons hs]
    cases e with
    | access a => exact .inr ⟨a, es, rfl, rfl⟩
    | cycle => exact .inl (engineCycle_of_controlOk (controlOk_congr h rfl))
    | hardReset => exact .inl ⟨_, rfl⟩

/-- Settles O50: a step that does not answer is an access, which faults by its address or is refused by size and
offset. -/
theorem stepStopsOnlyAtABadAccess : Obligations.StepStopsOnlyAtABadAccess := by
  intro s h
  obtain ⟨t, ht⟩ | ⟨a, es, hs, hstep⟩ := step_next_or_hostAccess h
  · rw [ht]; exact ⟨nofun, nofun⟩
  rw [hstep]
  refine ⟨fun r hr => ?_, fun r hr => ?_⟩
  · obtain ⟨hw, hfault⟩ := hostAccess_fault hr
    exact ⟨a, es, a.addr, hs, hfault, a.eq_read_or_write.imp (⟨_, ·⟩) (⟨_, ·⟩), (inWindow_eq_false_iff _).mp hw⟩
  · obtain ⟨hacc, hrefused⟩ := hostAccess_refused hr
    exact ⟨a, es, a.addr, a.bytes, hs, hrefused, a.eq_read_or_write, (accepted_eq_false_iff _ _).mp hacc⟩

end Sys2Proof.Machine
end

section
/-! A read leaves the engine as it was (20_memory.md R58), and so does a quiet run while idle, of engine cycles and reads
(R59). -/

namespace Sys2Proof.Machine

open Host
open Sys2Proof.Safety

/-! ### The engine without the model's own fields -/

/-- The state with the model's own fields blanked out. -/
def State.engineView (s : State) : State := { s with schedule := [], rdata := none, draws := 0 }

theorem sameEngine_iff (s t : State) : SameEngine s t ↔ t.engineView = s.engineView := by
  cases s; cases t
  simp only [SameEngine, SameOperands, SameLatch, State.engineView, State.mk.injEq]
  tauto

theorem State.slotWord_engineView (s : State) (l : Slot) : s.engineView.slotWord l = s.slotWord l := by
  cases l <;> rfl

/-- What a slot defines is read off the engine alone. -/
theorem sameEngine_slotWord {s t : State} (h : SameEngine s t) (l : Slot) : t.slotWord l = s.slotWord l := by
  rw [← t.slotWord_engineView, (sameEngine_iff s t).mp h, s.slotWord_engineView]

theorem sameEngine_trans {s t u : State} (hst : SameEngine s t) (htu : SameEngine t u) : SameEngine s u := by
  rw [sameEngine_iff] at hst htu ⊢
  exact htu.trans hst

theorem sameEngine_busy {s t : State} (h : SameEngine s t) : t.busy = s.busy := by
  obtain ⟨-, -, -, hbusy, -⟩ := h
  exact hbusy

theorem sameEngine_memRead (s : State) (off : Nat) : SameEngine s (s.memRead off) := by
  rw [sameEngine_iff]
  obtain hr | hr := s.memRead_cases off <;> rw [hr] <;> rfl

theorem State.memRead_schedule (s : State) (off : Nat) : (s.memRead off).schedule = s.schedule := by
  obtain hr | hr := s.memRead_cases off <;> rw [hr] <;> rfl

/-- While idle, two states of one engine answer a read alike. -/
theorem rdata_memRead_congr {s t : State} (h : SameEngine s t) (hb : s.busy = false) (off : Nat) :
    (t.memRead off).rdata = (s.memRead off).rdata := by
  rw [State.rdata_memRead_idle hb, State.rdata_memRead_idle ((sameEngine_busy h).trans hb), sameEngine_slotWord h]

/-! ### Quiet runs -/

/-- An engine clock cycle, or a read of any offset. -/
def Event.Quiet (e : Event) : Prop := e = .cycle ∨ ∃ addr bytes, e = .access (.read addr bytes)

/-- While idle a quiet event changes nothing but the answer left. -/
theorem happen_quiet {e : Event} {s t : State} (hb : s.busy = false) (he : e.Quiet) (h : happen e s = .next t) :
    SameEngine s t ∧ t.schedule = s.schedule ∧ t.draws = s.draws := by
  obtain rfl | ⟨addr, bytes, rfl⟩ := he
  · cases (engineCycle_idle hb).symm.trans h
    exact ⟨(sameEngine_iff s s).mpr rfl, rfl, rfl⟩
  · have hacc : hostAccess (.read addr bytes) s = .next t := h
    obtain ⟨_, -, -, -, rfl⟩ | ⟨_, _, ha, -⟩ := hostAccess_cases hacc
    · exact ⟨sameEngine_memRead s _, s.memRead_schedule _, State.draws_memRead_idle hb _⟩
    · cases ha

theorem step_quiet {s t : State} (hb : s.busy = false) (hq : ∀ e ∈ s.schedule.take 1, e.Quiet) (h : step s = .next t) :
    SameEngine s t ∧ t.schedule = s.schedule.drop 1 ∧ t.draws = s.draws := by
  cases hs : s.schedule with
  | nil =>
    rw [step_nil hs] at h
    obtain ⟨hsame, hsch, hdraws⟩ := happen_quiet hb (.inl rfl) h
    exact ⟨hsame, hsch.trans hs, hdraws⟩
  | cons e es =>
    rw [step_cons hs] at h
    exact happen_quiet (s := s.withSchedule es) hb (hq e (by simp [hs])) h

theorem run_succ {n : Nat} {s u : State} (h : core.run (n + 1) s = .next u) :
    ∃ t, step s = .next t ∧ core.run n t = .next u := by
  have hrun := (Core.run.eq_2 core s n).symm.trans h
  split at hrun
  · next t ht => exact ⟨t, ht, hrun⟩
  · cases hrun
  · cases hrun

/-- While idle a quiet run changes nothing but the answer left and the schedule it has consumed. -/
theorem run_quiet {n : Nat} {s t : State} (hb : s.busy = false) (hq : ∀ e ∈ s.schedule.take n, e.Quiet)
    (h : core.run n s = .next t) : SameEngine s t ∧ t.schedule = s.schedule.drop n ∧ t.draws = s.draws := by
  induction n generalizing s with
  | zero => cases h; exact ⟨(sameEngine_iff t t).mpr rfl, rfl, rfl⟩
  | succ n ih =>
    obtain ⟨u, hstep, hrun⟩ := run_succ h
    obtain ⟨hsu, hsch, hdraws⟩ := step_quiet hb (fun e he => hq e (List.take_subset_take_left _ (by omega) he)) hstep
    have hqu : ∀ e ∈ u.schedule.take n, e.Quiet := by
      rw [hsch, List.take_drop]
      exact fun e he => hq e (Nat.add_comm 1 n ▸ List.mem_of_mem_drop he)
    obtain ⟨hut, hsch', hdraws'⟩ := ih ((sameEngine_busy hsu).trans hb) hqu hrun
    exact ⟨sameEngine_trans hsu hut, by rw [hsch', hsch, List.drop_drop, Nat.add_comm], hdraws'.trans hdraws⟩

/-- Settles O17: the read and the quiet run after it keep the engine, which fixes what an idle read answers. -/
theorem readsHaveNoSideEffect : Obligations.ReadsHaveNoSideEffect := by
  intro s off
  have hsame := sameEngine_memRead s off
  have hsch := s.memRead_schedule off
  refine ⟨hsame, hsch, fun hb => ⟨rdata_memRead_congr hsame hb off, State.draws_memRead_idle hb off⟩,
    fun n t hb hq hrun => ?_⟩
  obtain ⟨hkeep, hsch', hdraws⟩ := run_quiet ((sameEngine_busy hsame).trans hb) (hsch ▸ hq) hrun
  have hst : SameEngine s t := sameEngine_trans hsame hkeep
  exact ⟨hst, by rw [hsch', hsch], hdraws.trans (State.draws_memRead_idle hb off), rdata_memRead_congr hst hb off⟩

end Sys2Proof.Machine
end

section
/-! The encoding (30_encoding.md R80 to R86), role by role: a word the decoder accepts is the encoding of the command it reads
and back, the roles' ranges are the masks of the opcode map, and no reserved encoding is accepted. -/

namespace Sys2Proof

/-! ### The decoder, as a condition on the word's fields (30_encoding.md R84) -/

/-- What the decoder asks of a word of opcode `o`. -/
structure Opcode.Accepts (o : Opcode) (w : Word) : Prop where
  code : o.code = opF w
  rsv : rsvF w = 0#6
  roles : o.fieldsInRole w = true
  swu : o = .swu → dF w ≠ bF w

/-- A word that decodes has passed the decoder's checks one by one. -/
theorem accepts_of_decode {w : Word} {i : Instr} (h : decode w = .ok i) : ∃ o : Opcode, o.Accepts w ∧ o.build w = i := by
  cases ho : Opcode.ofCode? (opF w) with
  | none => simp [decode, ho] at h
  | some o =>
    simp only [decode, ho, ite_eq_iff, reduceCtorEq, and_false, false_or, Except.ok.injEq] at h
    obtain ⟨hrsv, hroles, hswu, hbuild⟩ := h
    exact ⟨o, ⟨(ofCode?_eq_some_iff _ _).mp ho, by simpa using hrsv, by simpa using hroles,
      fun h => by simpa [h] using hswu⟩, hbuild⟩

theorem legal_iff (w : Word) : legal w = true ↔ ∃ o : Opcode, o.Accepts w := by
  constructor
  · intro h
    obtain ⟨_, -, hdecode⟩ := Machine.decode_of_legal h
    obtain ⟨o, ho, -⟩ := accepts_of_decode hdecode
    exact ⟨o, ho⟩
  · rintro ⟨o, hcode, hrsv, hroles, hswu⟩
    simpa [legal, (ofCode?_eq_some_iff _ _).mpr hcode, hrsv, hroles, or_iff_not_imp_left] using hswu

/-- The opcode map has one row per number (30_encoding.md R83). -/
theorem Opcode.code_injective : Function.Injective Opcode.code := fun o o' h =>
  Option.some.inj (((ofCode?_eq_some_iff _ o).mpr h).symm.trans ((ofCode?_eq_some_iff _ o').mpr rfl))

theorem Opcode.Accepts.unique {o o' : Opcode} {w : Word} (h : o.Accepts w) (h' : o'.code = opF w) : o' = o :=
  Opcode.code_injective (h'.trans h.code.symm)

theorem decode_eq_ok_iff (w : Word) (i : Instr) : decode w = .ok i ↔ ∃ o : Opcode, o.Accepts w ∧ o.build w = i := by
  refine ⟨accepts_of_decode, ?_⟩
  rintro ⟨o, ho, rfl⟩
  obtain ⟨o', ho', hdecode⟩ := Machine.decode_of_legal ((legal_iff w).mpr ⟨o, ho⟩)
  rwa [ho.unique ((ofCode?_eq_some_iff _ _).mp ho')] at hdecode

/-! ### Operands and their fields (30_encoding.md R81, R82) -/

@[simp] theorem asF_ofF (r : FReg) : asF (ofF r) = r := by revert r; decide
@[simp] theorem asE_ofE (r : EReg) : asE (ofE r) = r := by revert r; decide
@[simp] theorem asQ_ofQ (r : QReg) : asQ (ofQ r) = r := by revert r; decide
@[simp] theorem asHalf_ofHalf (h : Half) : asHalf (ofHalf h) = h := by revert h; decide
@[simp] theorem asConst_ofConst (k : FieldConst) : asConst (ofConst k) = k := by cases k <;> rfl
@[simp] theorem asBit_ofBit (v : Bool) : asBit (ofBit v) = v := by cases v <;> rfl

theorem ofF_injective : Function.Injective ofF := Function.LeftInverse.injective asF_ofF
theorem asF_injective : Function.Injective asF := fun _ _ h => BitVec.eq_of_toFin_eq h

@[simp] theorem admits_unused_zero : Role.unused.admits 0#4 = true := rfl
@[simp] theorem admits_f (x : BitVec 4) : Role.f.admits x = true := rfl
@[simp] theorem admits_ofE (r : EReg) : Role.e.admits (ofE r) = true := by revert r; decide
@[simp] theorem admits_ofQ (r : QReg) : Role.q.admits (ofQ r) = true := by revert r; decide
@[simp] theorem admits_ofConst (k : FieldConst) : Role.k.admits (ofConst k) = true := by cases k <;> rfl
@[simp] theorem admits_ofHalf (h : Half) : Role.h.admits (ofHalf h) = true := by revert h; decide
@[simp] theorem admits_ofBit (v : Bool) : Role.h.admits (ofBit v) = true := by cases v <;> rfl

/-- A field read in its role and written back. -/
def Role.rewrite : Role → BitVec 4 → BitVec 4
  | .unused, _ => 0#4
  | .f, x => ofF (asF x)
  | .e, x => ofE (asE x)
  | .q, x => ofQ (asQ x)
  | .k, x => ofConst (asConst x)
  | .h, x => ofHalf (asHalf x)

/-- The range of a role is what survives being read and written back. -/
theorem Role.rewrite_of_admits {r : Role} {x : BitVec 4} (h : r.admits x = true) : r.rewrite x = x := by
  revert x
  cases r <;> decide

theorem ofBit_asBit (x : BitVec 4) : ofBit (asBit x) = ofHalf (asHalf x) := by revert x; decide

/-! ### From a word to its command and back -/

@[simp] theorem Opcode.build_opcode (o : Opcode) (w : Word) : (o.build w).opcode = o := by cases o <;> rfl

/-- The encoder puts back every operand that `build` reads, each by its role. -/
theorem encode_build (o : Opcode) (w : Word) :
    encode (o.build w) =
      pack o.code (o.roles.d.rewrite (dF w)) (o.roles.a.rewrite (aF w)) (o.roles.b.rewrite (bF w))
        (o.roles.e.rewrite (eF w)) (o.roles.k.rewrite (kF w)) := by
  cases o
  case pset => exact congrArg (pack _ _ _ _ _) (ofBit_asBit (kF w))
  all_goals rfl

theorem fieldsInRole_iff (o : Opcode) (w : Word) :
    o.fieldsInRole w = true ↔
      o.roles.d.admits (dF w) = true ∧ o.roles.a.admits (aF w) = true ∧ o.roles.b.admits (bF w) = true ∧
        o.roles.e.admits (eF w) = true ∧ o.roles.k.admits (kF w) = true := by
  simp only [Opcode.fieldsInRole, Bool.and_eq_true, and_assoc]

theorem Opcode.Accepts.encode_build_eq {o : Opcode} {w : Word} (h : o.Accepts w) : encode (o.build w) = w := by
  obtain ⟨hd, ha, hb, he, hk⟩ := (fieldsInRole_iff o w).mp h.roles
  rw [encode_build, Role.rewrite_of_admits hd, Role.rewrite_of_admits ha, Role.rewrite_of_admits hb,
    Role.rewrite_of_admits he, Role.rewrite_of_admits hk, h.code, pack_fields h.rsv]

theorem Opcode.Accepts.wellFormed_build {o : Opcode} {w : Word} (h : o.Accepts w) : (o.build w).wellFormed = true := by
  cases o
  case swu => exact bne_iff_ne.mpr (asF_injective.ne (h.swu rfl))
  all_goals rfl

/-- Settles O43: a field in the range of its role is written back as it was read. -/
theorem encodeOfDecode : Obligations.EncodeOfDecode := by
  intro w i h
  obtain ⟨o, ho, rfl⟩ := (decode_eq_ok_iff w i).mp h
  exact ⟨ho.encode_build_eq, ho.wellFormed_build⟩

/-! ### From a command to its word and back -/

theorem fieldsInRole_pack (o : Opcode) (op : BitVec 6) (d a b e k : BitVec 4) :
    o.fieldsInRole (pack op d a b e k) =
      (o.roles.d.admits d && o.roles.a.admits a && o.roles.b.admits b && o.roles.e.admits e && o.roles.k.admits k) := by
  rw [Opcode.fieldsInRole, dF_pack, aF_pack, bF_pack, eF_pack, kF_pack]

/-- The encoder packs a word of the command's opcode. -/
theorem encode_eq_pack (i : Instr) : ∃ d a b e k, encode i = pack i.opcode.code d a b e k := by
  cases i <;> exact ⟨_, _, _, _, _, rfl⟩

/-- The encoder writes every operand in the range of its role. -/
theorem fieldsInRole_encode (i : Instr) : i.opcode.fieldsInRole (encode i) = true := by
  cases i
  all_goals simp only [encode, fieldsInRole_pack, Instr.opcode, Opcode.roles, admits_unused_zero, admits_f, admits_ofE,
    admits_ofQ, admits_ofConst, admits_ofHalf, admits_ofBit, Bool.and_self]

/-- `build` reads back the operands that the encoder wrote. -/
theorem build_encode (i : Instr) : i.opcode.build (encode i) = i := by
  cases i
  all_goals simp only [encode, Instr.opcode, Opcode.build, dF_pack, aF_pack, bF_pack, eF_pack, kF_pack, asF_ofF, asE_ofE,
    asQ_ofQ, asConst_ofConst, asHalf_ofHalf, asBit_ofBit]

theorem dF_ne_bF_encode {i : Instr} (hwf : i.wellFormed = true) (hi : i.opcode = .swu) : dF (encode i) ≠ bF (encode i) := by
  cases i
  case swu d a b =>
    rw [encode, dF_pack, bF_pack]
    exact ofF_injective.ne (bne_iff_ne.mp hwf)
  all_goals cases hi

theorem accepts_encode {i : Instr} (hwf : i.wellFormed = true) : i.opcode.Accepts (encode i) := by
  obtain ⟨d, a, b, e, k, hpack⟩ := encode_eq_pack i
  exact ⟨by rw [hpack, opF_pack], by rw [hpack, rsvF_pack], fieldsInRole_encode i, dF_ne_bF_encode hwf⟩

/-- Settles O42: the encoding is a word of the command's opcode that the decoder accepts, and `build` reads its operands. -/
theorem decodeOfEncode : Obligations.DecodeOfEncode := fun i hwf =>
  (decode_eq_ok_iff _ i).mpr ⟨i.opcode, accepts_encode hwf, build_encode i⟩

/-- Settles O46: the eight legal words are the encodings of the commands beside them; the two illegal ones are computed. -/
theorem listedWordsDecodeAsListed : Obligations.ListedWordsDecodeAsListed :=
  ⟨decodeOfEncode (.fmul 2 1 2) rfl, decodeOfEncode (.fcmov 4 4 6 0) rfl, decodeOfEncode (.swu 14 0 15) rfl,
    decodeOfEncode (.fldk 0 .invExp) rfl, decodeOfEncode (.pset 7 true) rfl, decodeOfEncode (.qadd 2 0 1) rfl,
    decodeOfEncode (.h2c 3) rfl, decodeOfEncode .zero rfl, rfl, rfl⟩

/-! ### The masks of the opcode map (30_encoding.md R83) -/

/-- The bits of a field that a role fixes at 0. -/
def Role.fixedBits : Role → BitVec 4
  | .unused => 0xf#4
  | .f => 0x0#4
  | .e => 0x8#4
  | .q => 0xc#4
  | .k => 0x0#4
  | .h => 0xe#4

/-- Role `K` is given to the field `k` of `FLDK` alone. -/
theorem roles_eq_k (o : Opcode) :
    o.roles.d ≠ .k ∧ o.roles.a ≠ .k ∧ o.roles.b ≠ .k ∧ o.roles.e ≠ .k ∧ (o.roles.k = .k ↔ o = .fldk) := by
  cases o <;> decide

/-- A role's range is given by its fixed bits, but for the bound of role `K`, which the map has as an extra condition. -/
theorem Role.admits_iff_fixedBits (r : Role) (x : BitVec 4) :
    r.admits x = true ↔ x &&& r.fixedBits = 0#4 ∧ (r = .k → x.toNat ≤ 9) := by
  revert x
  cases r <;> decide

/-! #### The fields of the masks and matches -/

theorem opF_maskBits (o : Opcode) : opF o.maskBits = BitVec.allOnes 6 := by cases o <;> rfl
theorem dF_maskBits (o : Opcode) : dF o.maskBits = o.roles.d.fixedBits := by cases o <;> rfl
theorem aF_maskBits (o : Opcode) : aF o.maskBits = o.roles.a.fixedBits := by cases o <;> rfl
theorem bF_maskBits (o : Opcode) : bF o.maskBits = o.roles.b.fixedBits := by cases o <;> rfl
theorem eF_maskBits (o : Opcode) : eF o.maskBits = o.roles.e.fixedBits := by cases o <;> rfl
theorem kF_maskBits (o : Opcode) : kF o.maskBits = o.roles.k.fixedBits := by cases o <;> rfl
theorem rsvF_maskBits (o : Opcode) : rsvF o.maskBits = BitVec.allOnes 6 := by cases o <;> rfl

/-- Column `match` has the opcode's number, and 0 in every other field. -/
theorem matchBits_eq_pack (o : Opcode) : o.matchBits = pack o.code 0#4 0#4 0#4 0#4 0#4 := by cases o <;> rfl

/-- Words with an equal field agree on its bits. -/
theorem getLsbD_eq_of_field {v w : Word} {start len i : Nat} (h : v.extractLsb' start len = w.extractLsb' start len)
    (hlo : start ≤ i) (hhi : i < start + len) : v.getLsbD i = w.getLsbD i := by
  have := congrArg (BitVec.getLsbD · (i - start)) h
  simpa [show i - start < len by omega, show start + (i - start) = i by omega] using this

/-- The fields make up the word (30_encoding.md R80). -/
theorem eq_iff_fields (v w : Word) :
    v = w ↔ opF v = opF w ∧ dF v = dF w ∧ aF v = aF w ∧ bF v = bF w ∧ eF v = eF w ∧ kF v = kF w ∧ rsvF v = rsvF w := by
  refine ⟨fun h => h ▸ ⟨rfl, rfl, rfl, rfl, rfl, rfl, rfl⟩, ?_⟩
  rintro ⟨hop, hd, ha, hb, he, hk, hrsv⟩
  apply BitVec.eq_of_getLsbD_eq
  intro i hi
  obtain hlo | ⟨hlo, hhi⟩ | ⟨hlo, hhi⟩ | ⟨hlo, hhi⟩ | ⟨hlo, hhi⟩ | ⟨hlo, hhi⟩ | hhi :
      26 ≤ i ∨ 22 ≤ i ∧ i < 26 ∨ 18 ≤ i ∧ i < 22 ∨ 14 ≤ i ∧ i < 18 ∨ 10 ≤ i ∧ i < 14 ∨ 6 ≤ i ∧ i < 10 ∨ i < 6 := by omega
  · exact getLsbD_eq_of_field hop hlo hi
  · exact getLsbD_eq_of_field hd hlo hhi
  · exact getLsbD_eq_of_field ha hlo hhi
  · exact getLsbD_eq_of_field hb hlo hhi
  · exact getLsbD_eq_of_field he hlo hhi
  · exact getLsbD_eq_of_field hk hlo hhi
  · exact getLsbD_eq_of_field hrsv i.zero_le (by omega)

/-- Mask and match of a row, field by field. -/
theorem and_maskBits_eq_iff (o : Opcode) (w : Word) :
    w &&& o.maskBits = o.matchBits ↔
      o.code = opF w ∧ rsvF w = 0#6 ∧ dF w &&& o.roles.d.fixedBits = 0#4 ∧ aF w &&& o.roles.a.fixedBits = 0#4 ∧
        bF w &&& o.roles.b.fixedBits = 0#4 ∧ eF w &&& o.roles.e.fixedBits = 0#4 ∧ kF w &&& o.roles.k.fixedBits = 0#4 := by
  have hop : opF (w &&& o.maskBits) = opF w &&& opF o.maskBits := BitVec.extractLsb'_and
  have hd : dF (w &&& o.maskBits) = dF w &&& dF o.maskBits := BitVec.extractLsb'_and
  have ha : aF (w &&& o.maskBits) = aF w &&& aF o.maskBits := BitVec.extractLsb'_and
  have hb : bF (w &&& o.maskBits) = bF w &&& bF o.maskBits := BitVec.extractLsb'_and
  have he : eF (w &&& o.maskBits) = eF w &&& eF o.maskBits := BitVec.extractLsb'_and
  have hk : kF (w &&& o.maskBits) = kF w &&& kF o.maskBits := BitVec.extractLsb'_and
  have hrsv : rsvF (w &&& o.maskBits) = rsvF w &&& rsvF o.maskBits := BitVec.extractLsb'_and
  rw [eq_iff_fields, hop, hd, ha, hb, he, hk, hrsv, opF_maskBits, dF_maskBits, aF_maskBits, bF_maskBits, eF_maskBits,
    kF_maskBits, rsvF_maskBits, matchBits_eq_pack, opF_pack, dF_pack, aF_pack, bF_pack, eF_pack, kF_pack, rsvF_pack,
    BitVec.and_allOnes, BitVec.and_allOnes]
  tauto

/-- The fields a row names are in their roles iff the mask's bits are 0 in them and, for `FLDK`, `k ≤ 9`. -/
theorem fieldsInRole_iff_fixedBits (o : Opcode) (w : Word) :
    o.fieldsInRole w = true ↔
      (dF w &&& o.roles.d.fixedBits = 0#4 ∧ aF w &&& o.roles.a.fixedBits = 0#4 ∧ bF w &&& o.roles.b.fixedBits = 0#4 ∧
        eF w &&& o.roles.e.fixedBits = 0#4 ∧ kF w &&& o.roles.k.fixedBits = 0#4) ∧
      (o = .fldk → (kF w).toNat ≤ 9) := by
  obtain ⟨hd, ha, hb, he, hk⟩ := roles_eq_k o
  simp only [fieldsInRole_iff, Role.admits_iff_fixedBits, hd, ha, hb, he, hk, false_imp_iff, and_true, and_assoc]

theorem extra_iff (o : Opcode) (w : Word) :
    o.extra w = true ↔ (o = .fldk → (kF w).toNat ≤ 9) ∧ (o = .swu → dF w ≠ bF w) := by
  simp only [Opcode.extra, Bool.and_eq_true, Bool.or_eq_true, bne_iff_ne, decide_eq_true_eq, ne_eq, or_iff_not_imp_left,
    not_not]

/-- A row of the opcode map: mask, match and extra condition are the decoder's checks. -/
theorem accepts_iff_row (o : Opcode) (w : Word) :
    o.Accepts w ↔ w &&& o.maskBits = o.matchBits ∧ o.extra w = true := by
  rw [and_maskBits_eq_iff, extra_iff]
  constructor
  · rintro ⟨hcode, hrsv, hroles, hswu⟩
    obtain ⟨hfields, hk⟩ := (fieldsInRole_iff_fixedBits o w).mp hroles
    exact ⟨⟨hcode, hrsv, hfields⟩, hk, hswu⟩
  · rintro ⟨⟨hcode, hrsv, hfields⟩, hk, hswu⟩
    exact ⟨hcode, hrsv, (fieldsInRole_iff_fixedBits o w).mpr ⟨hfields, hk⟩, hswu⟩

/-- Settles O44: the rows are the decoder's checks, and a mask covers the opcode field, whose numbers differ. -/
theorem legalWordsAreThoseOfTheOpcodeMap : Obligations.LegalWordsAreThoseOfTheOpcodeMap := by
  intro w
  refine ⟨?_, fun o => ?_, fun o o' h h' => ?_⟩
  · simp only [legal_iff, decode_eq_ok_iff]
    exact ⟨fun ⟨o, ho⟩ => ⟨_, o, ho, rfl⟩, fun ⟨_, o, ho, _⟩ => ⟨o, ho⟩⟩
  · rw [← accepts_iff_row]
    constructor
    · rintro ⟨i, hi, rfl⟩
      obtain ⟨o, ho, rfl⟩ := (decode_eq_ok_iff w i).mp hi
      rwa [Opcode.build_opcode]
    · exact fun ho => ⟨o.build w, (decode_eq_ok_iff w _).mpr ⟨o, ho, rfl⟩, o.build_opcode w⟩
  · obtain ⟨hcode, -⟩ := (and_maskBits_eq_iff o w).mp h
    obtain ⟨hcode', -⟩ := (and_maskBits_eq_iff o' w).mp h'
    exact Opcode.code_injective (hcode.trans hcode'.symm)

/-! ### Reserved encodings (30_encoding.md R85) -/

/-- The ranges of the assigned opcode numbers. -/
theorem code_assigned (o : Opcode) :
    o.code.toNat ≤ 0x0c ∨ (0x10 ≤ o.code.toNat ∧ o.code.toNat ≤ 0x1a) ∨ (0x20 ≤ o.code.toNat ∧ o.code.toNat ≤ 0x28) ∨
      o.code.toNat = 0x3f := by
  cases o <;> decide

/-- A word of an opcode is legal only if the row of that opcode accepts it. -/
theorem accepts_of_legal {o : Opcode} {w : Word} (hcode : o.code = opF w) (h : legal w = true) : o.Accepts w := by
  obtain ⟨o', ho'⟩ := (legal_iff w).mp h
  exact ho'.unique hcode ▸ ho'

theorem opF_assigned_of_legal {w : Word} (h : legal w = true) :
    (opF w).toNat ≤ 0x0c ∨ (0x10 ≤ (opF w).toNat ∧ (opF w).toNat ≤ 0x1a) ∨
      (0x20 ≤ (opF w).toNat ∧ (opF w).toNat ≤ 0x28) ∨ (opF w).toNat = 0x3f := by
  obtain ⟨o, ho⟩ := (legal_iff w).mp h
  exact ho.code ▸ code_assigned o

/-- An issue of an illegal word (60_exceptions.md R203). -/
theorem issue_illegal_raises {s : Machine.State} {w : Word} (hl : legal w = false) (hb : s.busy = false)
    (he : s.err = false) :
    Safety.SameOperands s (s.issue w) ∧ (s.issue w).err = true ∧ (s.issue w).errCode = .illegal ∧
      (s.issue w).errInfo = w ∧ (s.issue w).done = true ∧ (s.issue w).busy = false := by
  rw [Machine.State.issue_illegal hb he hl]
  refine ⟨Machine.sameOperands_latch s .illegal w, s.latch_err _ _, ?_, ?_, rfl, (s.latch_busy _ _).trans hb⟩
  · exact (s.latch_errCode _ _).trans (by rw [he]; rfl)
  · exact (s.latch_errInfo _ _).trans (by rw [he]; rfl)

/-- Settles O45: the accepting row of a legal word excludes each kind of reserved encoding. -/
theorem reservedEncodingsAreIllegal : Obligations.ReservedEncodingsAreIllegal := by
  refine ⟨fun w hres => Bool.eq_false_iff.mpr fun hlegal => ?_, fun s w => issue_illegal_raises⟩
  have hop := opF_assigned_of_legal hlegal
  rcases hres with hrange | hrange | hrange | ⟨hcode, hk⟩ | ⟨hcode, hdb⟩ | ⟨o, hcode, hroles⟩ | hrsv
  · unfold opF at hop; omega
  · unfold opF at hop; omega
  · unfold opF at hop; omega
  · have ho : Opcode.fldk.Accepts w := accepts_of_legal hcode.symm hlegal
    have hle : (kF w).toNat ≤ 9 := ((fieldsInRole_iff_fixedBits _ w).mp ho.roles).2 rfl
    unfold kF at hle; omega
  · have ho : Opcode.swu.Accepts w := accepts_of_legal hcode.symm hlegal
    exact ho.swu rfl hdb
  · have ho : o.Accepts w := accepts_of_legal hcode hlegal
    rw [ho.roles] at hroles; cases hroles
  · obtain ⟨o, ho⟩ := (legal_iff w).mp hlegal
    exact hrsv ho.rsv

end Sys2Proof
end

section
/-! The pseudo-instructions of 30_encoding.md R88. -/

namespace Sys2Proof.Machine

open Sys2Proof.Config (curve)
open Sys2Proof.Safety

/-! ### Two writes of one register -/

theorem State.writeField_writeField (s : State) (d : FReg) (m n : Nat) :
    (s.writeField d m).writeField d n = s.writeField d n := by
  simp [State.writeField, State.setF]

theorem State.fv_writeField_self (s : State) (d : FReg) {n : Nat} (h : n < curve.p) : (s.writeField d n).fv d = n := by
  rw [State.fv, State.toNat_getF_writeField s d h, Nat.mod_eq_of_lt h]

theorem State.raw_writeField_self (s : State) (d : FReg) {n : Nat} (h : n < curve.p) : (s.writeField d n).raw d = n :=
  s.toNat_getF_writeField d h

theorem State.fv_writeField_of_ne (s : State) {d i : FReg} (h : i ≠ d) (n : Nat) : (s.writeField d n).fv i = s.fv i := by
  rw [State.fv, State.writeField_eq, State.getF_setF_of_ne s h, State.fv]

/-- `FCUBE`: the second command multiplies the square by the source, which the first left alone. -/
theorem execAll_fcube {s : State} {d a : FReg} (h : d ≠ a) :
    execAll [.fsqr d a, .fmul d d a] s = .next (s.writeField d (s.fv a ^ 3 % curve.p)) := by
  have hcube : s.fv a * s.fv a % curve.p * s.fv a % curve.p = s.fv a ^ 3 % curve.p := by
    rw [Nat.mod_mul_mod]; congr 1; ring
  change Host.Outcome.next _ = _
  rw [State.fv_writeField_self s d (mod_curve_p_lt _), State.fv_writeField_of_ne s h.symm, hcube,
    State.writeField_writeField]

/-- `FISSQ2`: the exponent is read raw from the register that holds `EULER`. -/
theorem execAll_fissq2 {s : State} {d a : FReg} (h : d ≠ a) :
    execAll [.fldk d .euler, .fexp d a d] s = .next (s.writeField d (s.fv a ^ ((curve.p - 1) / 2) % curve.p)) := by
  change Host.Outcome.next _ = _
  rw [State.raw_writeField_self s d (constant_lt .euler), State.fv_writeField_of_ne s h.symm,
    powMod_eq _ _ ((constant_lt .euler).trans curve_p_lt), State.writeField_writeField]
  rfl

/-- Settles O60: each expansion ends in one write, and both two-command ones leave their source for the second. -/
theorem pseudoInstructionsExpandAsListed : Obligations.PseudoInstructionsExpandAsListed := by
  intro s d a b e f
  refine ⟨⟨_, rfl, ?fclr⟩, ⟨_, rfl, ?fone⟩, ⟨_, rfl, ?fdbl⟩, fun h => ⟨_, execAll_fcube h, ?fcube, onlyF_setF s d _⟩,
    ⟨_, rfl, ?pmov⟩, ⟨_, rfl, s.getE_setE_self e _⟩, ⟨_, rfl, s.getE_setE_self e _⟩, ⟨_, rfl, ?fcsel⟩,
    fun h => ⟨_, execAll_fissq2 h, ?fissq2, onlyF_setF s d _⟩⟩
  case fclr => exact s.toNat_getF_writeField d (constant_lt .zero)
  case fone => exact s.toNat_getF_writeField d (constant_lt .one)
  case fdbl => rw [two_mul]; exact s.toNat_getF_writeField d (mod_curve_p_lt _)
  case fcube => exact s.toNat_getF_writeField d (mod_curve_p_lt _)
  case pmov => rw [State.getE_setE_self, Bool.or_self]
  case fcsel => exact s.toNat_getF_writeField d (cmov_lt (fv_lt s a) (fv_lt s b) _)
  case fissq2 => exact s.toNat_getF_writeField d (mod_curve_p_lt _)

end Sys2Proof.Machine
end

section
/-! Powers modulo `p` in `GF(p)` (00_scope.md R17): the inverse of 41_field_arith.md R105 and R106, Fermat's power of R108 and
the root formula of R109. -/

namespace Sys2Proof.Machine

open Sys2Proof.Config (curve)
open Sys2Proof.Safety

/-- An equation of residues below `p` is an equation in `GF(p)`. -/
theorem mod_eq_iff_cast_eq {m n : Nat} (hn : n < curve.p) : m % curve.p = n ↔ (m : ZMod curve.p) = n := by
  rw [ZMod.natCast_eq_natCast_iff', Nat.mod_eq_of_lt hn]

theorem cast_ne_zero_of_lt {x : Nat} (hx : x < curve.p) (h : x ≠ 0) : (x : ZMod curve.p) ≠ 0 := by
  exact_mod_cast cast_ne_of_lt hx curve_p_pos h

/-- A power of 0 with an exponent that is not 0. The base is a variable, since the kernel would compute a power of
numerals. -/
theorem pow_mod_of_eq_zero (m : Nat) {x n : Nat} (hx : x = 0) (hn : n ≠ 0) : x ^ n % m = 0 := by
  rw [hx, zero_pow hn, Nat.zero_mod]

/-- Fermat's little theorem, for `FEXP`'s exponent `p − 1`. -/
theorem pow_curve_p_sub_one_mod {x : Nat} (hx : x < curve.p) (h : x ≠ 0) : x ^ (curve.p - 1) % curve.p = 1 := by
  have : Fact curve.p.Prime := ⟨curve_p_prime⟩
  rw [mod_eq_iff_cast_eq curve_p_prime.one_lt, Nat.cast_pow, Nat.cast_one]
  exact ZMod.pow_card_sub_one_eq_one (cast_ne_zero_of_lt hx h)

/-! ### The inverse -/

theorem fermatInv_lt (x : Nat) : fermatInv x < curve.p := mod_curve_p_lt _

theorem fermatInv_of_eq_zero {x : Nat} (h : x = 0) : fermatInv x = 0 := pow_mod_of_eq_zero _ h (by decide +kernel)

/-- In `GF(p)` the power is the inverse. -/
theorem cast_fermatInv_mul_cancel {x : Nat} (hx : x < curve.p) (h : x ≠ 0) :
    (fermatInv x : ZMod curve.p) * x = 1 := by
  rw [fermatInv, ← inv0_eq]
  exact curve_inv0_mul_cancel (cast_ne_zero_of_lt hx h)

theorem fermatInv_mul_mod {x : Nat} (hx : x < curve.p) (h : x ≠ 0) : fermatInv x * x % curve.p = 1 := by
  rw [mod_eq_iff_cast_eq curve_p_prime.one_lt, Nat.cast_mul, Nat.cast_one]
  exact cast_fermatInv_mul_cancel hx h

theorem fermatInv_pos {x : Nat} (hx : x < curve.p) (h : x ≠ 0) : 1 ≤ fermatInv x := by
  rw [Nat.one_le_iff_ne_zero]
  intro h0
  have hmul := fermatInv_mul_mod hx h
  rw [h0, zero_mul, Nat.zero_mod] at hmul
  exact zero_ne_one hmul

/-- The inverse is unique below `p`. -/
theorem eq_fermatInv_of_mul_mod {x r : Nat} (hx : x < curve.p) (h : x ≠ 0) (hr : r < curve.p)
    (hmul : r * x % curve.p = 1) : r = fermatInv x := by
  rw [mod_eq_iff_cast_eq curve_p_prime.one_lt, Nat.cast_mul, Nat.cast_one] at hmul
  rw [← Nat.mod_eq_of_lt hr, mod_eq_iff_cast_eq (fermatInv_lt x)]
  calc (r : ZMod curve.p)
      = r * (fermatInv x * x) := by rw [cast_fermatInv_mul_cancel hx h, mul_one]
    _ = fermatInv x * (r * x) := by ring
    _ = fermatInv x := by rw [hmul, mul_one]

/-- Multiplication undoes a division through the inverse. -/
theorem mul_fermatInv_mod_mul_mod {x y : Nat} (hx : x < curve.p) (hy : y < curve.p) (h : y ≠ 0) :
    x * fermatInv y % curve.p * y % curve.p = x := by
  rw [mod_eq_iff_cast_eq hx, Nat.cast_mul, ZMod.natCast_mod, Nat.cast_mul, mul_assoc, cast_fermatInv_mul_cancel hy h,
    mul_one]

/-! ### The root formula -/

/-- The square of the formula is the operand times its Euler power, since `2·(p+1)/4 = (p−1)/2 + 1`. -/
theorem cast_rootFormula_sq (x : Nat) :
    (rootFormula x : ZMod curve.p) ^ 2 = (x : ZMod curve.p) ^ (curve.p / 2) * x := by
  have hexp : (curve.p + 1) / 4 * 2 = curve.p / 2 + 1 := by decide +kernel
  rw [rootFormula, ZMod.natCast_mod, Nat.cast_pow, ← pow_mul, hexp, pow_succ]

/-- A residue is a square modulo `p` iff it is one in `GF(p)`. -/
theorem exists_root_iff_isSquare_cast {x : Nat} (hx : x < curve.p) :
    (∃ r, r * r % curve.p = x) ↔ IsSquare (x : ZMod curve.p) := by
  have : NeZero curve.p := ⟨curve_p_prime.ne_zero⟩
  constructor
  · rintro ⟨r, hr⟩
    rw [mod_eq_iff_cast_eq hx, Nat.cast_mul] at hr
    exact ⟨r, hr.symm⟩
  · rintro ⟨r, hr⟩
    exact ⟨r.val, by rw [mod_eq_iff_cast_eq hx, Nat.cast_mul, ZMod.natCast_zmod_val, hr]⟩

/-- Euler's power of a square is 1, but for 0, where the formula gives 0. -/
theorem rootFormula_sq_of_root {x : Nat} (hx : x < curve.p) (hroot : ∃ r, r * r % curve.p = x) :
    rootFormula x ^ 2 % curve.p = x := by
  have : Fact curve.p.Prime := ⟨curve_p_prime⟩
  have hsquare := (exists_root_iff_isSquare_cast hx).mp hroot
  rw [mod_eq_iff_cast_eq hx, Nat.cast_pow, cast_rootFormula_sq]
  by_cases h0 : (x : ZMod curve.p) = 0
  · rw [h0, mul_zero]
  · rw [(ZMod.euler_criterion curve.p h0).mp hsquare, one_mul]

/-- Euler's power of a non-square is −1. -/
theorem rootFormula_sq_of_no_root {x : Nat} (hx : x < curve.p) (hroot : ¬ ∃ r, r * r % curve.p = x) :
    rootFormula x ^ 2 % curve.p = curve.p - x := by
  have : Fact curve.p.Prime := ⟨curve_p_prime⟩
  have hpos : x ≠ 0 := fun h => hroot ⟨0, by rw [h, mul_zero, Nat.zero_mod]⟩
  have h0 := cast_ne_zero_of_lt hx hpos
  rw [exists_root_iff_isSquare_cast hx, ZMod.euler_criterion curve.p h0] at hroot
  have hpow := (ZMod.pow_div_two_eq_neg_one_or_one curve.p h0).resolve_left hroot
  rw [mod_eq_iff_cast_eq (by omega), Nat.cast_pow, cast_rootFormula_sq, hpow, Nat.cast_sub hx.le, ZMod.natCast_self,
    zero_sub, neg_one_mul]

end Sys2Proof.Machine
end

section
/-! The field arithmetic commands (41_field_arith.md R100 to R111): each writes one value below `p` to its destination, and
nothing else changes (R112). -/

namespace Sys2Proof.Machine

open Sys2Proof.Config (curve)
open Sys2Proof.Safety

/-! ### The one write -/

/-- A command that ends in the write of a value below `p` puts that value in its destination, and nothing else changes. -/
theorem exec_writes {i : Instr} {s : State} {d : FReg} {n : Nat} (h : exec i s = .next (s.writeField d n))
    (hn : n < curve.p) : ∃ t, exec i s = .next t ∧ (t.getF d).toNat = n ∧ OnlyF s t d :=
  ⟨_, h, s.toNat_getF_writeField d hn, onlyF_setF s d _⟩

/-! ### The values written, in plain arithmetic -/

theorem resid_neg_of_eq_zero (p : Nat) {x : Nat} (h : x = 0) : resid p (-(x : Int)) = 0 := by
  rw [h, resid, Nat.cast_zero, neg_zero, Int.zero_emod, Int.toNat_zero]

/-- The negation of a residue that is not 0, one modulus up (41_field_arith.md R102). -/
theorem resid_neg_of_pos {p x : Nat} (h : x ≠ 0) (hx : x < p) : resid p (-(x : Int)) = p - x := by
  have hshift : -(x : Int) % p = p - x := by
    rw [← Int.add_emod_right]
    exact (Int.emod_eq_of_lt (by omega) (by omega)).trans (by omega)
  rw [resid, hshift]
  omega

theorem State.fv_of_lt {s : State} {a : FReg} (h : (s.getF a).toNat < curve.p) : s.fv a = (s.getF a).toNat :=
  Nat.mod_eq_of_lt h

/-- A raw register of 256 bits is below `2·p`, so that one subtraction reduces it (10_state.md R22). -/
theorem State.fv_of_le {s : State} {a : FReg} (h : curve.p ≤ (s.getF a).toNat) :
    s.fv a = (s.getF a).toNat - curve.p := by
  have hwidth : 2 ^ 256 < 2 * curve.p := by decide +kernel
  have hraw := (s.getF a).isLt
  rw [State.fv, Nat.mod_eq_sub_mod h, Nat.mod_eq_of_lt (by omega)]

/-- The half as the sum of R111: the model's sum over a list is the sum over the index. -/
theorem State.half_eq (s : State) (h : Half) : s.half h = bigEndian s.ub h % curve.p := by
  rw [State.half, halfValue, bigEndian, Fin.sum_univ_def]

/-! ### The commands whose value the model computes by a method of its own -/

theorem exec_finv (d a : FReg) (s : State) :
    exec (.finv d a) s = .next (s.writeField d (fermatInv (s.fv a))) := by
  rw [fermatInv, ← inv0_eq]; rfl

theorem exec_fdiv (d a b : FReg) (s : State) :
    exec (.fdiv d a b) s = .next (s.writeField d (s.fv a * fermatInv (s.fv b) % curve.p)) := by
  rw [fermatInv, ← inv0_eq]; rfl

theorem exec_fexp (d a b : FReg) (s : State) :
    exec (.fexp d a b) s = .next (s.writeField d (s.fv a ^ (s.getF b).toNat % curve.p)) := by
  rw [← powMod_eq curve.p (s.fv a) (s.getF b).isLt]; rfl

theorem exec_fsqrt (d a : FReg) (s : State) :
    exec (.fsqrt d a) s = .next (s.writeField d (rootFormula (s.fv a))) := by
  rw [rootFormula, ← sqrtP_eq]; rfl

theorem exec_fldu (d : FReg) (h : Half) (s : State) :
    exec (.fldu d h) s = .next (s.writeField d (bigEndian s.ub h % curve.p)) := by
  rw [← State.half_eq]; rfl

/-! ### The statements -/

/-- Settles O25: Fermat's inverse, which is the only one below `p`. -/
theorem finvWritesTheInverseOrZero : Obligations.FinvWritesTheInverseOrZero := by
  intro s d a
  have hlt := fv_lt s a
  obtain ⟨t, ht, hval, hframe⟩ := exec_writes (exec_finv d a s) (fermatInv_lt _)
  refine ⟨decodeOfEncode (.finv d a) rfl, t, ht, hval, fun h => ?zero, fun h => ?inverse, hframe⟩
  case zero => rw [hval, fermatInv_of_eq_zero h]
  case inverse =>
    rw [hval]
    exact ⟨fermatInv_pos hlt h, fermatInv_lt _, fermatInv_mul_mod hlt h, fun _ _ => eq_fermatInv_of_mul_mod hlt h⟩

/-- Settles O26: the quotient is a product with the inverse, which the divisor cancels. -/
theorem fdivMultipliesByTheInverse : Obligations.FdivMultipliesByTheInverse := by
  intro s d a b
  have hlt := fv_lt s b
  obtain ⟨t, ht, hval, hframe⟩ := exec_writes (exec_fdiv d a b s) (mod_curve_p_lt _)
  refine ⟨decodeOfEncode (.fdiv d a b) rfl, t, ht, hval, fun h => ?zero, fun h => ?quotient, fun h hab => ?self, hframe⟩
  case zero => rw [hval, fermatInv_of_eq_zero h, mul_zero, Nat.zero_mod]
  case quotient => rw [hval, mul_fermatInv_mod_mul_mod (fv_lt s a) hlt h]
  case self => rw [hval, hab, mul_comm, fermatInv_mul_mod hlt h]

/-- Settles O28: the cases of the exponent, with Fermat's little theorem for `p − 1`. -/
theorem fexpRaisesToTheRawExponent : Obligations.FexpRaisesToTheRawExponent := by
  intro s d a b
  obtain ⟨t, ht, hval, hframe⟩ := exec_writes (exec_fexp d a b s) (mod_curve_p_lt _)
  refine ⟨decodeOfEncode (.fexp d a b) rfl, t, ht, hval, fun h => ?powZero, fun ha hb => ?zeroPow, fun ha hb => ?fermat,
    hframe⟩
  case powZero => rw [hval, h, BitVec.toNat_ofNat, Nat.zero_mod, pow_zero, Nat.mod_eq_of_lt curve_p_prime.one_lt]
  case zeroPow =>
    have hexp : (s.getF b).toNat ≠ 0 := fun h => hb (BitVec.eq_of_toNat_eq h)
    rw [hval, pow_mod_of_eq_zero _ ha hexp]
  case fermat => rw [hval, hb, pow_curve_p_sub_one_mod (fv_lt s a) ha]

/-- Settles O29: the square of the formula is the operand times its Euler power, 1 for squares and −1 for the others. -/
theorem fsqrtWritesTheRootFormula : Obligations.FsqrtWritesTheRootFormula := by
  intro s d a
  obtain ⟨t, ht, hval, hframe⟩ := exec_writes (exec_fsqrt d a s) (mod_curve_p_lt _)
  refine ⟨decodeOfEncode (.fsqrt d a) rfl, t, ht, hval, fun h => ?square, fun h => ?nonSquare, hframe⟩
  case square => rw [hval, rootFormula_sq_of_root (fv_lt s a) h]
  case nonSquare => rw [hval, rootFormula_sq_of_no_root (fv_lt s a) h]

/-- Settles O21: a sum reduced modulo `p`. -/
theorem faddWritesTheSumModP : Obligations.FaddWritesTheSumModP := fun _ d a b =>
  ⟨decodeOfEncode (.fadd d a b) rfl, exec_writes rfl (mod_curve_p_lt _)⟩

/-- Settles O22: `resid` is the residue of the integer difference. -/
theorem fsubWritesTheDifferenceModP : Obligations.FsubWritesTheDifferenceModP := by
  intro s d a b
  have hexec : exec (.fsub d a b) s = .next (s.writeField d (resid curve.p ((s.fv a : Int) - s.fv b))) := rfl
  obtain ⟨t, ht, hval, hframe⟩ := exec_writes hexec (resid_lt curve_p_pos _)
  exact ⟨decodeOfEncode (.fsub d a b) rfl, t, ht, by rw [hval, resid_cast curve_p_pos], hframe⟩

/-- Settles O23: the residue of the integer negation, and its value for 0 and for the others. -/
theorem fnegWritesTheNegationModP : Obligations.FnegWritesTheNegationModP := by
  intro s d a
  have hexec : exec (.fneg d a) s = .next (s.writeField d (resid curve.p (-(s.fv a : Int)))) := rfl
  obtain ⟨t, ht, hval, hframe⟩ := exec_writes hexec (resid_lt curve_p_pos _)
  refine ⟨decodeOfEncode (.fneg d a) rfl, t, ht, ?residue, fun h => ?zero, fun h => ?nonzero, hframe⟩
  case residue => rw [hval, resid_cast curve_p_pos]
  case zero => rw [hval, resid_neg_of_eq_zero _ h]
  case nonzero => rw [hval, resid_neg_of_pos h (fv_lt s a)]

/-- Settles O24: `FSQR` is `FMUL` of a register with itself by definition. -/
theorem fmulAndFsqrWriteTheProductModP : Obligations.FmulAndFsqrWriteTheProductModP := fun _ d a b =>
  ⟨decodeOfEncode (.fmul d a b) rfl, decodeOfEncode (.fsqr d a) rfl, exec_writes rfl (mod_curve_p_lt _),
    exec_writes rfl (mod_curve_p_lt _), rfl⟩

/-- Settles O27: the field value is the raw value or that less `p`. -/
theorem fmovWritesTheReducedValue : Obligations.FmovWritesTheReducedValue := by
  intro s d a
  have hexec : exec (.fmov d a) s = .next (s.writeField d (s.fv a)) := rfl
  obtain ⟨t, ht, hval, hframe⟩ := exec_writes hexec (fv_lt s a)
  exact ⟨decodeOfEncode (.fmov d a) rfl, t, ht, hval, fun h => hval.trans (State.fv_of_lt h),
    fun h => hval.trans (State.fv_of_le h), hframe⟩

/-- An index past the table of 41_field_arith.md R110 is a reserved encoding (30_encoding.md R85). -/
theorem fldk_index_illegal (d : FReg) {n : BitVec 4} (hn : 10 ≤ n.toNat) :
    legal (pack 0x0b#6 (ofF d) 0#4 0#4 0#4 n) = false := by
  have hk : 10 ≤ (kF (pack 0x0b#6 (ofF d) 0#4 0#4 0#4 n)).toNat := by rwa [kF_pack]
  exact reservedEncodingsAreIllegal.1 _ (.inr (.inr (.inr (.inl ⟨opF_pack .., hk⟩))))

/-- Settles O30: five constants stand in the configuration or are fixed numbers; those that are made of them are computed. -/
theorem fldkLoadsTheConstant : Obligations.FldkLoadsTheConstant := by
  intro s d k
  have hexec : exec (.fldk d k) s = .next (s.writeField d (constant curve k)) := rfl
  obtain ⟨t, ht, hval, hframe⟩ := exec_writes hexec (constant_lt k)
  refine ⟨decodeOfEncode (.fldk d k) rfl, fun _ => fldk_index_illegal d, t, ht, hframe, hval.trans ?_⟩
  cases k
  case zero | one | a | b | z => rfl
  case c1 | c2 | euler | sqrtExp | invExp => decide +kernel

/-- Settles O31: the model's sum over the bytes is that of the statement. -/
theorem flduLoadsAHalfOfTheUniformBytes : Obligations.FlduLoadsAHalfOfTheUniformBytes := fun s d h =>
  ⟨decodeOfEncode (.fldu d h) rfl, exec_writes (exec_fldu d h s) (mod_curve_p_lt _)⟩

end Sys2Proof.Machine
end

section
/-! The tests, the select and the predicate logic (42_predicate_select.md R130 to R140): each writes one register, and nothing
else changes (R141). -/

namespace Sys2Proof.Machine

open Sys2Proof.Config (curve)
open Sys2Proof.Safety

/-! ### The one write -/

theorem onlyE_setE (s : State) (d : EReg) (v : Bool) : OnlyE s (s.setE d v) d :=
  ⟨rfl, fun _ hj => s.getE_setE_of_ne hj v, rfl, rfl, ⟨rfl, rfl, rfl⟩, sameControl_refl s⟩

/-- A command that ends in the write of a bit puts that bit in its destination, and nothing else changes. -/
theorem exec_writes_predicate {i : Instr} {s : State} {d : EReg} {v : Bool} (h : exec i s = .next (s.setE d v)) :
    ∃ t, exec i s = .next t ∧ t.getE d = v ∧ OnlyE s t d :=
  ⟨_, h, s.getE_setE_self d v, onlyE_setE s d v⟩

/-- The same for a bit that decides a condition. -/
theorem exec_decides {i : Instr} {s : State} {d : EReg} {v : Bool} {P : Prop} (h : exec i s = .next (s.setE d v))
    (hP : v = true ↔ P) : ∃ t, exec i s = .next t ∧ (t.getE d = true ↔ P) ∧ OnlyE s t d := by
  obtain ⟨t, ht, hval, hframe⟩ := exec_writes_predicate h
  exact ⟨t, ht, by rw [hval, hP], hframe⟩

/-! ### What the tests decide -/

theorem State.isZero_iff (s : State) (a : FReg) : s.isZero a = true ↔ s.fv a = 0 := beq_iff_eq

theorem State.isEqual_iff (s : State) (a b : FReg) : s.isEqual a b = true ↔ s.fv a = s.fv b := beq_iff_eq

theorem State.parity_iff (s : State) (a : FReg) : s.parity a = true ↔ s.fv a % 2 = 1 := beq_iff_eq

theorem State.isSq_iff_eulerSquare (s : State) (a : FReg) : s.isSq a = true ↔ EulerSquare (s.fv a) :=
  isSquare_eq_true_iff (s.fv a)

/-- Euler's criterion, for a value that is reduced already. -/
theorem State.isSq_iff_exists_root (s : State) (a : FReg) : s.isSq a = true ↔ ∃ r, r * r % curve.p = s.fv a := by
  rw [State.isSq, curve_isSquare_iff, Nat.mod_eq_of_lt (fv_lt s a)]

/-! ### The statements -/

/-- Settles O32: each test writes the bit that decides its condition. -/
theorem fieldTestsWriteOnePredicate : Obligations.FieldTestsWriteOnePredicate := by
  intro s d a b
  refine ⟨decodeOfEncode (.fisz d a) rfl, decodeOfEncode (.feq d a b) rfl, decodeOfEncode (.fissq d a) rfl,
    decodeOfEncode (.fsgn0 d a) rfl, exec_decides rfl (s.isZero_iff a), exec_decides rfl (s.isEqual_iff a b), ?fissq,
    exec_decides rfl (s.parity_iff a)⟩
  case fissq =>
    have hexec : exec (.fissq d a) s = .next (s.setE d (s.isSq a)) := rfl
    obtain ⟨t, ht, hval, hframe⟩ := exec_writes_predicate hexec
    exact ⟨t, ht, by rw [hval, s.isSq_iff_eulerSquare], by rw [hval, s.isSq_iff_exists_root], hframe⟩

/-- Settles O33: the selected value is below `p` whichever it is. -/
theorem fcmovSelectsByThePredicate : Obligations.FcmovSelectsByThePredicate := by
  intro s d a b e
  have hexec : exec (.fcmov d a b e) s = .next (s.writeField d (cmov (s.fv a) (s.fv b) (s.getE e))) := rfl
  obtain ⟨t, ht, hval, hframe⟩ := exec_writes hexec (cmov_lt (fv_lt s a) (fv_lt s b) _)
  refine ⟨decodeOfEncode (.fcmov d a b e) rfl, t, ht, fun he => ?set, fun he => ?clear, hframe⟩
  case set => rw [hval, he]; rfl
  case clear => rw [hval, he]; rfl

/-- An immediate of `PSET` that is no bit is out of its role (30_encoding.md R81, R85). -/
theorem pset_immediate_illegal (d : EReg) {n : BitVec 4} (hn : 2 ≤ n.toNat) :
    legal (pack 0x1a#6 (ofE d) 0#4 0#4 0#4 n) = false := by
  have hrole : Role.h.admits n = false := decide_eq_false (by omega)
  have hfields : Opcode.pset.fieldsInRole (pack 0x1a#6 (ofE d) 0#4 0#4 0#4 n) = false := by
    rw [fieldsInRole_pack, Opcode.roles, hrole, Bool.and_false]
  exact reservedEncodingsAreIllegal.1 _ (.inr (.inr (.inr (.inr (.inr (.inl ⟨.pset, (opF_pack ..).symm, hfields⟩))))))

/-- Settles O34: each command writes the bit of its connective. -/
theorem predicateLogicWritesOnePredicate : Obligations.PredicateLogicWritesOnePredicate := fun _ d a b v =>
  ⟨decodeOfEncode (.pand d a b) rfl, decodeOfEncode (.por d a b) rfl, decodeOfEncode (.pxor d a b) rfl,
    decodeOfEncode (.pxnor d a b) rfl, decodeOfEncode (.pnot d a) rfl, decodeOfEncode (.pset d v) rfl,
    fun _ => pset_immediate_illegal d,
    exec_decides rfl Bool.and_eq_true_iff, exec_decides rfl Bool.or_eq_true_iff, exec_decides rfl bne_iff_ne,
    exec_decides rfl (by rw [Bool.not_eq_true', bne_eq_false_iff_eq]), exec_decides rfl (by rw [Bool.not_eq_true']),
    exec_writes_predicate rfl⟩

end Sys2Proof.Machine
end

section
/-! The Simplified SWU map (43_curve.md R160): the model's function takes the sixteen steps, and the pair they give is on the
curve whatever the input, since one of the two candidates for the ordinate's square is a square. -/

namespace Sys2Proof.Machine

open Sys2Proof.Config (curve)
open Sys2Proof.Safety

/-! ### The model's function takes the steps -/

theorem inv0_eq_fermatInv (x : Nat) : inv0 curve x = fermatInv x := inv0_eq x
theorem sqrtP_eq_rootFormula (x : Nat) : sqrtP curve x = rootFormula x := sqrtP_eq x

theorem eulerSquare_iff_isSquare (x : Nat) : EulerSquare x ↔ isSquare curve x = true := (isSquare_eq_true_iff x).symm

theorem sgn0_beq_iff (x y : Nat) : (sgn0 x == sgn0 y) = true ↔ x % 2 = y % 2 := beq_iff_eq

theorem cmov_of_iff {c : Bool} {P : Prop} (h : c = true ↔ P) (hP : P) (x y : Nat) : cmov x y c = y := if_pos (h.mpr hP)

theorem cmov_of_iff_not {c : Bool} {P : Prop} (h : c = true ↔ P) (hP : ¬ P) (x y : Nat) : cmov x y c = x :=
  if_neg (mt h.mp hP)

/-- Each selection is cited with the condition it decides: left to compare the two by evaluation, the kernel would compute
the powers. -/
theorem swuMap_steps (u : Nat) : SwuSteps u (swuMap curve u).1 (swuMap curve u).2 := by
  unfold swuMap
  extract_lets tv1 tv2 i e1 x1 gx1 x2 gx2 e2 x y2 r e3
  have h1 : e1 = true ↔ i = 0 := beq_iff_eq
  have h2 : e2 = true ↔ EulerSquare gx1 := (eulerSquare_iff_isSquare gx1).symm
  have h3 : e3 = true ↔ u % 2 = r % 2 := sgn0_beq_iff u r
  dsimp only
  refine ⟨tv1, tv2, i, x1, gx1, x2, gx2, y2, r, rfl, rfl, inv0_eq_fermatInv _, fun hi => ?exceptional, fun hi => ?regular,
    rfl, rfl, rfl, fun hsq => .intro (cmov_of_iff h2 hsq x2 x1) (cmov_of_iff h2 hsq gx2 gx1),
    fun hsq => .intro (cmov_of_iff_not h2 hsq x2 x1) (cmov_of_iff_not h2 hsq gx2 gx1), sqrtP_eq_rootFormula y2,
    fun hsgn => cmov_of_iff h3 hsgn (resid curve.p (-(r : Int))) r, fun hsgn => ?negate⟩
  case exceptional => exact congrArg (· * c1 curve % curve.p) (cmov_of_iff h1 hi ((i + 1) % curve.p) (c2 curve))
  case regular => exact congrArg (· * c1 curve % curve.p) (cmov_of_iff_not h1 hi ((i + 1) % curve.p) (c2 curve))
  case negate =>
    exact (congrArg Nat.cast (cmov_of_iff_not h3 hsgn (resid curve.p (-(r : Int))) r)).trans (resid_cast curve_p_pos _)

/-! ### The two candidates, in a field -/

/-- Where the exceptional case does not arise, the curve's right-hand side at the second abscissa `t·x` is that at the first
one times `t³`. -/
theorem rhs_second_candidate {R : Type} [CommRing R] {A B c t i x : R} (hc : c * A = -B) (hinv : i * (t + t ^ 2) = 1)
    (hx : x = (i + 1) * c) : (t * x) ^ 3 + A * (t * x) + B = (x ^ 3 + A * x + B) * (t * t ^ 2) := by
  subst hx
  linear_combination (i + 1) * (t - t ^ 3) * hc - B * (1 - t) * hinv

/-- The product of two non-squares of `GF(p)` is a square. -/
theorem isSquare_mul_of_not_isSquare {p : Nat} [Fact p.Prime] {a b : ZMod p} (ha : ¬ IsSquare a) (hb : ¬ IsSquare b) :
    IsSquare (a * b) := by
  have ha0 : a ≠ 0 := fun h => ha (h ▸ IsSquare.zero)
  have hb0 : b ≠ 0 := fun h => hb (h ▸ IsSquare.zero)
  rw [ZMod.euler_criterion p ha0] at ha
  rw [ZMod.euler_criterion p hb0] at hb
  rw [ZMod.euler_criterion p (mul_ne_zero ha0 hb0), mul_pow,
    (ZMod.pow_div_two_eq_neg_one_or_one p ha0).resolve_left ha,
    (ZMod.pow_div_two_eq_neg_one_or_one p hb0).resolve_left hb, neg_mul_neg, one_mul]

/-- `t = Z·u²` carries a non-square to a square: `g·t³ = (g·Z)·(Z·u³)²`. -/
theorem isSquare_second_candidate {p : Nat} [Fact p.Prime] {g Z u t : ZMod p} (hZ : ¬ IsSquare Z) (hg : ¬ IsSquare g)
    (ht : t = Z * u ^ 2) : IsSquare (g * (t * t ^ 2)) := by
  have hprod : g * (t * t ^ 2) = g * Z * (Z * u ^ 3) ^ 2 := by rw [ht]; ring
  rw [hprod]
  exact (isSquare_mul_of_not_isSquare hg hZ).mul (IsSquare.sq _)

/-! ### The steps land on the curve -/

theorem eulerSquare_iff_isSquare_cast {x : Nat} (hx : x < curve.p) : EulerSquare x ↔ IsSquare (x : ZMod curve.p) := by
  rw [eulerSquare_iff_isSquare, curve_isSquare_iff, Nat.mod_eq_of_lt hx, exists_root_iff_isSquare_cast hx]

theorem curve_Z_not_isSquare_cast : ¬ IsSquare (curve.Z : ZMod curve.p) := by
  have hZ : curve.Z < curve.p := by decide +kernel
  rw [← exists_root_iff_isSquare_cast hZ]
  simpa only [Nat.mod_eq_of_lt hZ] using curve_Z_not_square

/-- 00_scope.md R9(e) for the abscissa of the exceptional case, computed. -/
theorem eulerSquare_exceptional : EulerSquare (curveRhs curve (c2 curve * c1 curve % curve.p)) := by
  rw [eulerSquare_iff_isSquare]
  decide +kernel

theorem curveRhs_lt (x : Nat) : curveRhs curve x < curve.p := mod_curve_p_lt _

theorem cast_curveRhs (x : Nat) : (curveRhs curve x : ZMod curve.p) = x ^ 3 + curve.A * x + curve.B := by
  rw [curveRhs, ZMod.natCast_mod]; push_cast; rfl

/-- A step-5 value that is not 0 is the inverse of `tv1 + tv1²`. -/
theorem cast_fermatInv_mul_of_ne_zero {w : Nat} (hw : w < curve.p) (hi : fermatInv w ≠ 0) :
    (fermatInv w : ZMod curve.p) * w = 1 :=
  cast_fermatInv_mul_cancel hw fun h => hi (fermatInv_of_eq_zero h)

/-- Steps 9 and 10, where the first candidate is no square: its abscissa is not the exceptional one. -/
theorem second_candidate {u tv1 i x1 : Nat} (htv1 : (tv1 : ZMod curve.p) = curve.Z * u ^ 2)
    (hi : i = fermatInv ((tv1 + tv1 ^ 2 % curve.p) % curve.p))
    (hexc : i = 0 → x1 = c2 curve * c1 curve % curve.p) (hreg : i ≠ 0 → x1 = (i + 1) % curve.p * c1 curve % curve.p)
    (hsq : ¬ EulerSquare (curveRhs curve x1)) :
    IsSquare ((curveRhs curve x1 : ZMod curve.p) * (tv1 * tv1 ^ 2)) ∧
      (curveRhs curve x1 : ZMod curve.p) * (tv1 * tv1 ^ 2) =
        (tv1 * x1 : ZMod curve.p) ^ 3 + curve.A * (tv1 * x1) + curve.B := by
  have : Fact curve.p.Prime := ⟨curve_p_prime⟩
  have hi0 : i ≠ 0 := fun h => hsq (hexc h ▸ eulerSquare_exceptional)
  have hinv : (i : ZMod curve.p) * (tv1 + tv1 ^ 2) = 1 := by
    have h := cast_fermatInv_mul_of_ne_zero (mod_curve_p_lt _) (hi ▸ hi0)
    rw [← hi] at h
    rwa [ZMod.natCast_mod, Nat.cast_add, ZMod.natCast_mod, Nat.cast_pow] at h
  have hx1 : (x1 : ZMod curve.p) = (i + 1) * c1 curve := by
    rw [hreg hi0, ZMod.natCast_mod, Nat.cast_mul, ZMod.natCast_mod, Nat.cast_add, Nat.cast_one]
  rw [eulerSquare_iff_isSquare_cast (curveRhs_lt x1)] at hsq
  refine ⟨isSquare_second_candidate curve_Z_not_isSquare_cast hsq htv1, ?_⟩
  rw [cast_curveRhs,
    rhs_second_candidate (c1_mul_A curve_p_prime curve_p_lt curve_A_ne_zero) hinv hx1]

/-- Steps 1 to 13: the abscissa is reduced, and the ordinate's square is a square and the curve's right-hand side. -/
theorem swuSteps_square {u x y : Nat} (h : SwuSteps u x y) :
    ∃ y2, x < curve.p ∧ y2 < curve.p ∧ IsSquare (y2 : ZMod curve.p) ∧
      (y2 : ZMod curve.p) = (x : ZMod curve.p) ^ 3 + curve.A * x + curve.B ∧
      (y = rootFormula y2 ∨ (y : Int) = -(rootFormula y2 : Int) % curve.p) := by
  obtain ⟨tv1, tv2, i, x1, gx1, x2, gx2, y2, r, htv1, rfl, hi, hexc, hreg, hgx1, rfl, rfl, hfirst, hsecond, rfl, hkeep,
    hneg⟩ := h
  have hg : gx1 = curveRhs curve x1 := hgx1
  have hy : y = rootFormula y2 ∨ (y : Int) = -(rootFormula y2 : Int) % curve.p := by
    by_cases hsgn : u % 2 = rootFormula y2 % 2
    · exact .inl (hkeep hsgn)
    · exact .inr (hneg hsgn)
  rw [hg] at hsecond hfirst
  suffices hsquare : x < curve.p ∧ y2 < curve.p ∧ IsSquare (y2 : ZMod curve.p) ∧
      (y2 : ZMod curve.p) = (x : ZMod curve.p) ^ 3 + curve.A * x + curve.B by
    obtain ⟨hx, hlt, hsq, hrhs⟩ := hsquare
    exact ⟨y2, hx, hlt, hsq, hrhs, hy⟩
  by_cases hsq : EulerSquare (curveRhs curve x1)
  · obtain ⟨hx, hy2⟩ := hfirst hsq
    have hlt : x1 < curve.p := by
      by_cases hi0 : i = 0
      · exact hexc hi0 ▸ mod_curve_p_lt _
      · exact hreg hi0 ▸ mod_curve_p_lt _
    rw [hx, hy2]
    exact ⟨hlt, curveRhs_lt x1, (eulerSquare_iff_isSquare_cast (curveRhs_lt x1)).mp hsq, cast_curveRhs x1⟩
  · obtain ⟨hx, hy2⟩ := hsecond hsq
    have htv : (tv1 : ZMod curve.p) = curve.Z * u ^ 2 := by
      rw [htv1, ZMod.natCast_mod, Nat.cast_mul, Nat.cast_pow]
    obtain ⟨hroot, hrhs⟩ := second_candidate htv hi hexc hreg hsq
    have hcast : (y2 : ZMod curve.p) = curveRhs curve x1 * (tv1 * tv1 ^ 2) := by
      rw [hy2, ZMod.natCast_mod, Nat.cast_mul, ZMod.natCast_mod, Nat.cast_mul, ZMod.natCast_mod, Nat.cast_pow]
    have hxcast : (x : ZMod curve.p) = tv1 * x1 := by rw [hx, ZMod.natCast_mod, Nat.cast_mul]
    rw [hcast, hxcast, hx, hy2]
    exact ⟨mod_curve_p_lt _, mod_curve_p_lt _, hroot, hrhs⟩

/-- Steps 14 to 16: the root formula's square is the square it is the root of, with either sign. -/
theorem signed_root {y y2 : Nat} (hlt : y2 < curve.p) (hsq : IsSquare (y2 : ZMod curve.p))
    (hy : y = rootFormula y2 ∨ (y : Int) = -(rootFormula y2 : Int) % curve.p) :
    y < curve.p ∧ (y : ZMod curve.p) ^ 2 = y2 := by
  have hroot : (rootFormula y2 : ZMod curve.p) ^ 2 = y2 := by
    rw [← Nat.cast_pow, ← mod_eq_iff_cast_eq hlt]
    exact rootFormula_sq_of_root hlt ((exists_root_iff_isSquare_cast hlt).mpr hsq)
  obtain rfl | hneg := hy
  · exact ⟨mod_curve_p_lt _, hroot⟩
  · rw [← resid_cast curve_p_pos, Nat.cast_inj] at hneg
    rw [hneg, resid_zmod curve_p_pos, Int.cast_neg, Int.cast_natCast, neg_sq]
    exact ⟨resid_lt curve_p_pos _, hroot⟩

/-- The sixteen steps give canonical coordinates of a curve point (43_curve.md R169). -/
theorem swuSteps_on_curve {u x y : Nat} (h : SwuSteps u x y) :
    x < curve.p ∧ y < curve.p ∧ y ^ 2 % curve.p = (x ^ 3 + curve.A * x + curve.B) % curve.p := by
  obtain ⟨y2, hx, hlt, hsq, hrhs, hy⟩ := swuSteps_square h
  obtain ⟨hylt, hyy⟩ := signed_root hlt hsq hy
  refine ⟨hx, hylt, ?_⟩
  rw [← ZMod.natCast_eq_natCast_iff']
  push_cast
  rw [hyy, hrhs]

theorem onCurve_swuMap (u : Nat) : onCurve curve (swuMap curve u).1 (swuMap curve u).2 = true :=
  (onCurve_eq_true_iff _ _).mpr (swuSteps_on_curve (swuMap_steps u)).2.2

end Sys2Proof.Machine
end

section
/-! The addition law of the model, case by case, in the words of 43_curve.md R163. -/

namespace Sys2Proof.Machine

open Sys2Proof.Config (curve)
open Sys2Proof.Safety

/-! ### One equation per case -/

theorem pdbl_of_inf {P : Point} (hi : P.inf = true) : pdbl curve P = .identity := if_pos hi

theorem pdbl_of_y_zero {P : Point} (hi : P.inf = false) (hy : P.y.toNat = 0) : pdbl curve P = .identity := by
  simp only [pdbl, hi, hy, if_true, Bool.false_eq_true, if_false]

theorem pdbl_of_y_ne_zero {P : Point} (hi : P.inf = false) (hy : P.y.toNat ≠ 0) :
    pdbl curve P =
      chordEnd curve ((3 * P.x.toNat ^ 2 + curve.A) * fermatInv (2 * P.y.toNat % curve.p) % curve.p) P.x.toNat P.y.toNat
        P.x.toNat := by
  simp only [pdbl, hi, hy, Bool.false_eq_true, if_false, inv0_eq_fermatInv]

theorem padd_of_inf_left {P : Point} (hi : P.inf = true) (Q : Point) : padd curve P Q = Q := if_pos hi

theorem padd_of_inf_right {P Q : Point} (hP : P.inf = false) (hQ : Q.inf = true) : padd curve P Q = P := by
  simp only [padd, hP, hQ, if_true, Bool.false_eq_true, if_false]

theorem padd_of_opposite {P Q : Point} (hP : P.inf = false) (hQ : Q.inf = false) (hx : P.x = Q.x)
    (hy : (P.y.toNat + Q.y.toNat) % curve.p = 0) : padd curve P Q = .identity := by
  simp only [padd, hP, hQ, hx, hy, and_self, if_true, Bool.false_eq_true, if_false]

theorem padd_of_x_eq {P Q : Point} (hP : P.inf = false) (hQ : Q.inf = false) (hx : P.x = Q.x)
    (hy : (P.y.toNat + Q.y.toNat) % curve.p ≠ 0) : padd curve P Q = pdbl curve P := by
  simp only [padd, hP, hQ, hx, hy, and_false, if_true, Bool.false_eq_true, if_false]

theorem padd_of_x_ne {P Q : Point} (hP : P.inf = false) (hQ : Q.inf = false) (hx : P.x ≠ Q.x) :
    padd curve P Q =
      chordEnd curve
        (resid curve.p (((Q.y.toNat : Int) - P.y.toNat) * fermatInv (resid curve.p ((Q.x.toNat : Int) - P.x.toNat))))
        P.x.toNat P.y.toNat Q.x.toNat := by
  have hx' : ¬ P.x.toNat = Q.x.toNat := fun h => hx (BitVec.eq_of_toNat_eq h)
  simp only [padd, hP, hQ, hx', false_and, Bool.false_eq_true, if_false, inv0_eq_fermatInv]

/-! ### The law, in the words of the spec -/

theorem lineEnd_chordEnd (l x1 y1 x2 : Nat) : LineEnd l x1 y1 x2 (chordEnd curve l x1 y1 x2) := by
  have hx : (((chordEnd curve l x1 y1 x2).x.toNat : Nat) : Int) = ((l : Int) ^ 2 - x1 - x2) % curve.p := by
    rw [chordEnd, Point.affine, toNat_ofNat_of_lt (resid_lt curve_p_pos _), resid_cast curve_p_pos]
  refine ⟨hx, ?_, rfl⟩
  rw [hx, chordEnd, Point.affine, toNat_ofNat_of_lt (resid_lt curve_p_pos _), resid_cast curve_p_pos,
    resid_cast curve_p_pos]

theorem doubling_pdbl (P : Point) : Doubling P (pdbl curve P) := by
  refine ⟨pdbl_of_inf, pdbl_of_y_zero, fun hi hy => ?_⟩
  rw [pdbl_of_y_ne_zero hi hy]
  exact lineEnd_chordEnd _ _ _ _

theorem addition_padd (P Q : Point) : Addition P Q (padd curve P Q) := by
  refine ⟨fun hP => padd_of_inf_left hP Q, padd_of_inf_right, padd_of_opposite, fun hP hQ hx hy => ?tangent,
    fun hP hQ hx => ?chord⟩
  case tangent => rw [padd_of_x_eq hP hQ hx hy]; exact doubling_pdbl P
  case chord =>
    have h := lineEnd_chordEnd
      (resid curve.p (((Q.y.toNat : Int) - P.y.toNat) * fermatInv (resid curve.p ((Q.x.toNat : Int) - P.x.toNat))))
      P.x.toNat P.y.toNat Q.x.toNat
    rwa [← padd_of_x_ne hP hQ hx, resid_cast curve_p_pos] at h

/-- Doubling is the addition of a point to itself, wherever 10_state.md R26 holds: for a reduced `y` the sum `y + y` vanishes
modulo the odd `p` only where `y` is 0. -/
theorem pdbl_eq_padd_self {P : Point} (h : PointOk P) : pdbl curve P = padd curve P P := by
  obtain rfl | ⟨hi, -, hlt, -⟩ := h
  · rfl
  · by_cases hy : P.y.toNat = 0
    · rw [pdbl_of_y_zero hi hy, padd_of_opposite hi hi rfl (by rw [hy, Nat.zero_mod])]
    · rw [padd_of_x_eq hi hi rfl (by rw [← two_mul]; exact two_mul_mod_ne_zero hlt hy)]

end Sys2Proof.Machine
end

section
/-! The mapper and the point commands (43_curve.md R160 to R170): what each writes, in terms of the map and of the addition
law, and that `H2C` gives the point of the sequence of primitive commands. -/

namespace Sys2Proof.Machine

open Sys2Proof.Config (curve)
open Sys2Proof.Safety

/-! ### One write of a point -/

theorem onlyQ_setQ (s : State) (d : QReg) (P : Point) : OnlyQ s (s.setQ d P) d :=
  ⟨rfl, rfl, fun _ hj => s.getQ_setQ_of_ne hj P, rfl, ⟨rfl, rfl, rfl⟩, sameControl_refl s⟩

/-- A command that ends in the write of a point puts it in its destination, and nothing else changes. -/
theorem exec_writes_point {i : Instr} {s : State} {d : QReg} {P : Point} (h : exec i s = .next (s.setQ d P)) :
    ∃ t, exec i s = .next t ∧ t.getQ d = P ∧ OnlyQ s t d :=
  ⟨_, h, s.getQ_setQ_self d P, onlyQ_setQ s d P⟩

/-- A command that ends in the write of a coordinate, raw. -/
theorem exec_writes_raw {i : Instr} {s : State} {d : FReg} {v : Reg} (h : exec i s = .next (s.setF d v)) :
    ∃ t, exec i s = .next t ∧ t.getF d = v ∧ OnlyF s t d :=
  ⟨_, h, s.getF_setF_self d v, onlyF_setF s d v⟩

/-! ### What the commands write -/

/-- The lift of a pair that is given by the three conditions of 43_curve.md R161. -/
theorem exec_qlift_of_onCurve {s : State} {a b : FReg} {x y : Nat} (d : QReg) (ha : s.raw a = x) (hb : s.raw b = y)
    (hx : x < curve.p) (hy : y < curve.p) (hc : onCurve curve x y = true) :
    exec (.qlift d a b) s = .next (s.setQ d (.affine x y)) := by
  have hlift : lift curve (s.raw a) (s.raw b) = some (.affine x y) := by
    rw [ha, hb]; exact (lift_eq_some_iff x y _).mpr ⟨hx, hy, hc, rfl⟩
  change execQlift d a b s = _
  simp only [execQlift, hlift]

theorem exec_qlift_of_lift_none {s : State} {a b : FReg} (d : QReg) (h : lift curve (s.raw a) (s.raw b) = none) :
    exec (.qlift d a b) s = .next (s.raise .decode) := by
  change execQlift d a b s = _
  simp only [execQlift, h]

/-- A pair that fails one of the three conditions has no lift. -/
theorem lift_eq_none {x y : Nat}
    (h : curve.p ≤ x ∨ curve.p ≤ y ∨ y ^ 2 % curve.p ≠ (x ^ 3 + curve.A * x + curve.B) % curve.p) :
    lift curve x y = none := by
  rw [Option.eq_none_iff_forall_ne_some]
  intro P hP
  obtain ⟨hx, hy, hc, -⟩ := (lift_eq_some_iff x y P).mp hP
  obtain h | h | h := h
  · omega
  · omega
  · exact h ((onCurve_eq_true_iff x y).mp hc)

/-- The point that a field element is mapped to. -/
def mappedPoint (u : Nat) : Point := .affine (swuMap curve u).1 (swuMap curve u).2

theorem pointOk_mappedPoint (u : Nat) : PointOk (mappedPoint u) := pointOk_swuMap (onCurve_swuMap u)

/-- Both checks of `H2C` pass, whatever the uniform bytes (92_eei_decisions.md D37). -/
theorem exec_h2c (d : QReg) (s : State) :
    exec (.h2c d) s = .next (s.setQ d (padd curve (mappedPoint (s.half 0)) (mappedPoint (s.half 1)))) := by
  change execH2c d s = _
  simp only [execH2c, onCurve_swuMap, Bool.not_true, Bool.or_self, Bool.false_eq_true, if_false, mappedPoint]

/-- `SWU`'s two writes (43_curve.md R160): the pair that `u` is mapped to. -/
def State.writePair (s : State) (d b : FReg) (u : Nat) : State :=
  (s.writeField d (swuMap curve u).1).writeField b (swuMap curve u).2

theorem State.getF_writePair_of_ne (s : State) {d b i : FReg} (hd : i ≠ d) (hb : i ≠ b) (u : Nat) :
    (s.writePair d b u).getF i = s.getF i := by
  rw [writePair, writeField_eq, getF_setF_of_ne _ hb, writeField_eq, getF_setF_of_ne _ hd]

theorem State.raw_writePair_fst (s : State) {d b : FReg} (h : d ≠ b) (u : Nat) :
    (s.writePair d b u).raw d = (swuMap curve u).1 := by
  rw [writePair, raw, writeField_eq, getF_setF_of_ne _ h]
  exact s.raw_writeField_self d (swuMap_fst_lt u)

theorem State.raw_writePair_snd (s : State) (d b : FReg) (u : Nat) : (s.writePair d b u).raw b = (swuMap curve u).2 :=
  raw_writeField_self _ b (swuMap_snd_lt u)

theorem exec_swu {s : State} {a : FReg} {u : Nat} (d b : FReg) (h : s.fv a = u) :
    exec (.swu d a b) s = .next (s.writePair d b u) := by
  rw [← h]; rfl

/-! ### The statements -/

/-- `SWU` with one register for both destinations (30_encoding.md R84, R85). -/
theorem swu_same_destination_illegal (d a : FReg) : legal (pack 0x20#6 (ofF d) (ofF a) (ofF d) 0#4 0#4) = false := by
  have hsame : dF (pack 0x20#6 (ofF d) (ofF a) (ofF d) 0#4 0#4) = bF (pack 0x20#6 (ofF d) (ofF a) (ofF d) 0#4 0#4) := by
    rw [dF_pack, bF_pack]
  exact reservedEncodingsAreIllegal.1 _ (.inr (.inr (.inr (.inr (.inl ⟨opF_pack .., hsame⟩)))))

/-- Settles O35: the pair is the map's, which takes the sixteen steps, and the second write leaves the first. -/
theorem swuFollowsTheSixteenSteps : Obligations.SwuFollowsTheSixteenSteps := by
  intro s d a b
  refine ⟨fun h => h ▸ swu_same_destination_illegal d a, fun h => decodeOfEncode (.swu d a b) (bne_iff_ne.mpr h),
    fun h => ⟨_, exec_swu d b rfl, ?_, fun i hd hb => s.getF_writePair_of_ne hd hb _, rfl, rfl, rfl, ⟨rfl, rfl, rfl⟩,
      sameControl_refl s⟩⟩
  have hx := s.raw_writePair_fst h (s.fv a)
  have hy := s.raw_writePair_snd d b (s.fv a)
  rw [State.raw] at hx hy
  rw [hx, hy]
  exact swuMap_steps _

/-- Settles O36: the lift answers a point under exactly the three conditions of R161. -/
theorem qliftLiftsOrRaisesDecode : Obligations.QliftLiftsOrRaisesDecode := by
  intro s d a b
  refine ⟨decodeOfEncode (.qlift d a b) rfl, ?_⟩
  by_cases hok : (s.getF a).toNat < curve.p ∧ (s.getF b).toNat < curve.p ∧
      (s.getF b).toNat ^ 2 % curve.p = ((s.getF a).toNat ^ 3 + curve.A * (s.getF a).toNat + curve.B) % curve.p
  · obtain ⟨hx, hy, hc⟩ := hok
    obtain ⟨t, ht, hval, hframe⟩ :=
      exec_writes_point (exec_qlift_of_onCurve d rfl rfl hx hy ((onCurve_eq_true_iff _ _).mpr hc))
    refine ⟨t, ht, fun _ _ _ => ⟨hval.trans ?_, hframe⟩, fun hbad => ?_⟩
    · simp only [Point.affine, State.raw, BitVec.ofNat_toNat, BitVec.setWidth_eq]
    · omega
  · have hbad : curve.p ≤ (s.getF a).toNat ∨ curve.p ≤ (s.getF b).toNat ∨
        (s.getF b).toNat ^ 2 % curve.p ≠ ((s.getF a).toNat ^ 3 + curve.A * (s.getF a).toNat + curve.B) % curve.p := by
      omega
    exact ⟨_, exec_qlift_of_lift_none d (lift_eq_none hbad), fun hx hy hc => absurd ⟨hx, hy, hc⟩ hok,
      fun _ => errorTaken_latch s _ _⟩

/-- Settles O37: each command is one write. -/
theorem pointAccessCommandsCopyAndTest : Obligations.PointAccessCommandsCopyAndTest := fun _ d e n a =>
  ⟨decodeOfEncode (.qinf n) rfl, decodeOfEncode (.qgetx d a) rfl, decodeOfEncode (.qgety d a) rfl,
    decodeOfEncode (.qisinf e a) rfl, exec_writes_point rfl, exec_writes_raw rfl, exec_writes_raw rfl,
    exec_writes_predicate rfl⟩

/-- Settles O38: the commands write the model's sum and double, which follow the law case by case. -/
theorem qaddAndQdblFollowTheAdditionLaw : Obligations.QaddAndQdblFollowTheAdditionLaw := by
  intro s d a b
  have hadd (c : QReg) : exec (.qadd d a c) s = .next (s.setQ d (padd curve (s.getQ a) (s.getQ c))) := rfl
  have hdbl : exec (.qdbl d a) s = .next (s.setQ d (pdbl curve (s.getQ a))) := rfl
  refine ⟨decodeOfEncode (.qadd d a b) rfl, decodeOfEncode (.qdbl d a) rfl, ?add, ?double, fun hs => ?self⟩
  case add =>
    obtain ⟨t, ht, hval, hframe⟩ := exec_writes_point (hadd b)
    exact ⟨t, ht, hval ▸ addition_padd _ _, hframe⟩
  case double =>
    obtain ⟨t, ht, hval, hframe⟩ := exec_writes_point hdbl
    exact ⟨t, ht, hval ▸ doubling_pdbl _, hframe⟩
  case self => rw [hdbl, hadd, pdbl_eq_padd_self (hs a)]

/-- Settles O39: both pairs are the map's and pass their checks, so that the clause of a failed check is never met. -/
theorem hashToCurveMapsChecksAndAdds : Obligations.HashToCurveMapsChecksAndAdds := by
  intro s d
  obtain ⟨t, ht, hval, hframe⟩ := exec_writes_point (exec_h2c d s)
  rw [← s.half_eq 0, ← s.half_eq 1]
  refine ⟨decodeOfEncode (.h2c d) rfl, t, _, _, _, _, ht, swuMap_steps _, swuMap_steps _, fun _ _ => ⟨?sum, hframe⟩,
    fun hbad => ?failed⟩
  case sum => rw [hval]; exact addition_padd _ _
  case failed => simp only [onCurve_swuMap, Bool.true_eq_false, or_self] at hbad

/-- Settles O58: one of the two candidates is a square, whose root the formula gives, and the law keeps the points on the
curve. -/
theorem theMapAlwaysLandsOnTheCurve : Obligations.TheMapAlwaysLandsOnTheCurve := by
  refine ⟨fun u x y _ h => swuSteps_on_curve h, fun s d => ⟨_, exec_h2c d s, ⟨rfl, rfl, rfl⟩, ?_⟩⟩
  rw [State.getQ_setQ_self]
  exact pointOk_padd (pointOk_mappedPoint _) (pointOk_mappedPoint _)

/-! ### `H2C` as a sequence of primitive commands (43_curve.md R170) -/

theorem execAll_cons {i : Instr} {s t : State} (h : exec i s = .next t) (is : List Instr) :
    execAll (i :: is) s = execAll is t := by
  simp only [execAll, h]

theorem execAll_append {is : List Instr} {s t : State} (h : execAll is s = .next t) (js : List Instr) :
    execAll (is ++ js) s = execAll js t := by
  induction is generalizing s with
  | nil => cases h; rfl
  | cons i is ih =>
    obtain ⟨r, hr⟩ := exec_next i s
    rw [execAll_cons hr] at h
    rw [List.cons_append, execAll_cons hr, ih h]

/-- The first four commands leave the two mapped pairs in `F`: the second half of `UB` survives the first pair, and the first
pair the second. -/
theorem execAll_fldu_swu (s : State) {u0 u1 x0 y0 x1 y1 : FReg} (hu : u0 ≠ u1) (h0 : x0 ≠ y0) (h1 : x1 ≠ y1)
    (hux : u1 ≠ x0) (huy : u1 ≠ y0) (hxx : x0 ≠ x1) (hxy : x0 ≠ y1) (hyx : y0 ≠ x1) (hyy : y0 ≠ y1) :
    ∃ t, execAll [.fldu u0 0, .fldu u1 1, .swu x0 u0 y0, .swu x1 u1 y1] s = .next t ∧
      t.raw x0 = (swuMap curve (s.half 0)).1 ∧ t.raw y0 = (swuMap curve (s.half 0)).2 ∧
      t.raw x1 = (swuMap curve (s.half 1)).1 ∧ t.raw y1 = (swuMap curve (s.half 1)).2 ∧ SameLatch s t := by
  have hlt (h : Half) : s.half h < curve.p := mod_curve_p_lt _
  have hload (t : State) (u : FReg) (h : Half) : exec (.fldu u h) t = .next (t.writeField u (t.half h)) := rfl
  have hhalf : (s.writeField u0 (s.half 0)).half 1 = s.half 1 := rfl
  have hfirst : ((s.writeField u0 (s.half 0)).writeField u1 (s.half 1)).fv u0 = s.half 0 := by
    rw [State.fv_writeField_of_ne _ hu, State.fv_writeField_self _ _ (hlt 0)]
  have hsecond : (((s.writeField u0 (s.half 0)).writeField u1 (s.half 1)).writePair x0 y0 (s.half 0)).fv u1 = s.half 1 := by
    rw [State.fv, State.getF_writePair_of_ne _ hux huy]
    exact State.fv_writeField_self _ _ (hlt 1)
  rw [execAll_cons (hload s u0 0), execAll_cons (hload _ u1 1), hhalf, execAll_cons (exec_swu x0 y0 hfirst),
    execAll_cons (exec_swu x1 y1 hsecond)]
  refine ⟨_, rfl, ?_, ?_, State.raw_writePair_fst _ h1 _, State.raw_writePair_snd _ _ _ _, ⟨rfl, rfl, rfl⟩⟩
  · rw [State.raw, State.getF_writePair_of_ne _ hxx hxy]
    exact State.raw_writePair_fst _ h0 _
  · rw [State.raw, State.getF_writePair_of_ne _ hyx hyy]
    exact State.raw_writePair_snd _ _ _ _

/-- A pair that `SWU` has written is canonical and on the curve, so `QLIFT` takes it. -/
theorem exec_qlift_mapped {s : State} {x y : FReg} {u : Nat} (d : QReg) (hx : s.raw x = (swuMap curve u).1)
    (hy : s.raw y = (swuMap curve u).2) : exec (.qlift d x y) s = .next (s.setQ d (mappedPoint u)) :=
  exec_qlift_of_onCurve d hx hy (swuMap_fst_lt u) (swuMap_snd_lt u) (onCurve_swuMap u)

/-- The last three commands, on registers that hold the two mapped pairs. -/
theorem execAll_qlift_qadd {s : State} {qa qb : QReg} {x0 y0 x1 y1 : FReg} {m n : Nat} (d : QReg) (hq : qa ≠ qb)
    (hx0 : s.raw x0 = (swuMap curve m).1) (hy0 : s.raw y0 = (swuMap curve m).2) (hx1 : s.raw x1 = (swuMap curve n).1)
    (hy1 : s.raw y1 = (swuMap curve n).2) :
    execAll [.qlift qa x0 y0, .qlift qb x1 y1, .qadd d qa qb] s =
      .next (((s.setQ qa (mappedPoint m)).setQ qb (mappedPoint n)).setQ d (padd curve (mappedPoint m) (mappedPoint n))) := by
  have hadd (t : State) : exec (.qadd d qa qb) t = .next (t.setQ d (padd curve (t.getQ qa) (t.getQ qb))) := rfl
  have hlift1 : exec (.qlift qb x1 y1) (s.setQ qa (mappedPoint m)) =
      .next ((s.setQ qa (mappedPoint m)).setQ qb (mappedPoint n)) := exec_qlift_mapped qb hx1 hy1
  rw [execAll_cons (exec_qlift_mapped qa hx0 hy0), execAll_cons hlift1, execAll_cons (hadd _),
    State.getQ_setQ_of_ne _ hq, State.getQ_setQ_self, State.getQ_setQ_self]
  rfl

/-- Settles O59: four commands leave the mapped pairs in `F`, and the other three lift and add them. -/
theorem hashToCurveEqualsTheCommandSequence : Obligations.HashToCurveEqualsTheCommandSequence := by
  intro s d qa qb u0 u1 x0 y0 x1 y1 hu h0 h1 hux huy hxx hxy hyx hyy hq
  obtain ⟨t, ht, hval, hframe⟩ := exec_writes_point (exec_h2c d s)
  obtain ⟨v, hmaps, hx0, hy0, hx1, hy1, hlatch⟩ :=
    execAll_fldu_swu s hu h0 h1 hux huy hxx.symm hyx.symm hxy.symm hyy.symm
  refine ⟨t, _, ht, hframe, (execAll_append hmaps _).trans (execAll_qlift_qadd d hq hx0 hy0 hx1 hy1), ?_, hlatch⟩
  rw [State.getQ_setQ_self, hval]

end Sys2Proof.Machine
end

section
/-! The system commands (44_system.md R190, R191): a command without operands has one legal word, `NOP` writes nothing and
`ZERO` wipes the operand state. -/

namespace Sys2Proof.Machine

open Sys2Proof.Safety

/-! ### Legal words (30_encoding.md R84) -/

theorem legal_encode {i : Instr} (hwf : i.wellFormed = true) : legal (encode i) = true :=
  (legal_iff _).mpr ⟨i.opcode, accepts_encode hwf⟩

/-- An opcode whose command reads nothing from its word has one legal word: the others have a nonzero unused or reserved
field. -/
theorem illegal_of_ne_encode {o : Opcode} {i : Instr} (hbuild : ∀ w, o.build w = i) {w : Word} (hcode : o.code = opF w)
    (hne : w ≠ encode i) : legal w = false := by
  refine Bool.eq_false_iff.mpr fun hlegal => hne ?_
  have henc : encode (o.build w) = w := (accepts_of_legal hcode hlegal).encode_build_eq
  rw [← henc, hbuild]

/-! ### The statements -/

/-- Settles O40: the word is legal, so it is accepted (10_state.md R38), and the command answers the state it is given. -/
theorem nopOnlyCompletes : Obligations.NopOnlyCompletes := by
  have hdecode : decode 0x00000000#32 = .ok .nop := decodeOfEncode .nop rfl
  refine ⟨hdecode, fun w hne hcode => illegal_of_ne_encode (o := .nop) (fun _ => rfl) hcode.symm hne, fun s => ?_⟩
  have hexec : exec .nop s = .next s := rfl
  refine ⟨hexec, fun hb he => ?issue, fun hp => ?complete⟩
  case issue =>
    obtain ⟨-, -, -, -, haccept⟩ := issueIsDecidedInOrder s 0x00000000#32
    exact haccept hb he (legal_encode (i := .nop) rfl)
  case complete =>
    rw [complete_of_decode (hp ▸ hdecode), completeWith_eq_next hexec]
    rfl

/-- Settles O41: the wipe leaves the operand state of reset (70_reset_and_hazards.md R230) and no other field is written. -/
theorem zeroWipesAllOperandState : Obligations.ZeroWipesAllOperandState := by
  refine ⟨decodeOfEncode .zero rfl, fun w hne hcode => illegal_of_ne_encode (o := .zero) (fun _ => rfl) hcode.symm hne,
    fun s => ⟨s.wipe, rfl, State.getF_of_replicate s.wipe_f, State.getE_of_replicate s.wipe_e,
      State.getQ_of_replicate s.wipe_q, fun j => ?bytes, ⟨rfl, rfl, rfl, rfl⟩, ⟨rfl, rfl, rfl⟩, sameControl_refl s,
      fun hb he => ?issue, fun hb he => ?dropped⟩⟩
  case bytes => simp only [State.wipe_ub, Vector.getElem_replicate]
  case issue =>
    obtain ⟨-, -, -, -, haccept⟩ := issueIsDecidedInOrder s 0xFC000000#32
    rw [haccept hb he (legal_encode (i := .zero) rfl)]
  case dropped =>
    obtain ⟨-, -, hdrop, -, -⟩ := issueIsDecidedInOrder s 0xFC000000#32
    exact hdrop hb he

end Sys2Proof.Machine
end

section
/-! Taking an error (60_exceptions.md R200 to R209): which commands can take one and what of the state they leave, what keeps
a latched error, and the two orders in which a `CMD` write and a completion can meet. -/

namespace Sys2Proof.Machine

open Sys2Proof.Safety

/-! ### The latch under commands (60_exceptions.md R202, R207) -/

theorem sameLatch_refl (s : State) : SameLatch s s := ⟨rfl, rfl, rfl⟩

/-- Taking an error keeps one that is latched already. -/
theorem sameLatch_latch_of_err {s : State} (h : s.err = true) (code : ErrCode) (info : Word) :
    SameLatch s (s.latch code info) :=
  (s.latch_of_err h code info).symm ▸ sameLatch_refl s

/-- A command leaves the latch, or raises `DECODE`. -/
theorem effect_sameLatch_or_raise {i : Instr} {s t : State} (he : Effect i s t) : SameLatch s t ∨ t = s.raise .decode := by
  cases he with
  | error => exact .inr rfl
  | _ => exact .inl (sameLatch_refl s)

theorem effect_sameLatch_of_err {i : Instr} {s t : State} (he : Effect i s t) (h : s.err = true) : SameLatch s t := by
  obtain hsame | rfl := effect_sameLatch_or_raise he
  · exact hsame
  · exact sameLatch_latch_of_err h _ _

/-- Only the two commands with a check can take an error. -/
theorem exec_sameLatch_or_checked {i : Instr} {s t : State} (h : exec i s = .next t) :
    SameLatch s t ∨ (∃ d a b, i = .qlift d a b) ∨ ∃ d, i = .h2c d := by
  cases i
  case qlift d a b => exact .inr (.inl ⟨d, a, b, rfl⟩)
  case h2c d => exact .inr (.inr ⟨d, rfl⟩)
  all_goals cases h; exact .inl ⟨rfl, rfl, rfl⟩

/-- Settles O51: where the latch differs, the command raised `DECODE` and none was latched before. -/
theorem failingCommandsWriteNoOperandState : Obligations.FailingCommandsWriteNoOperandState := by
  intro i s t h hdiff
  have hchecked := (exec_sameLatch_or_checked h).resolve_left hdiff
  obtain rfl := (effect_sameLatch_or_raise (exec_effect h)).resolve_left hdiff
  obtain ⟨hoperands, hcontrol, htaken, hkept⟩ := errorTaken_latch s .decode s.pending
  have herr : s.err = false := Bool.eq_false_iff.mpr fun he => hdiff (hkept he)
  obtain ⟨hset, hcode, hinfo⟩ := htaken herr
  exact ⟨hoperands, hcontrol, hset, hcode, hinfo, hchecked⟩

/-! ### A latched error is kept (60_exceptions.md R200) -/

theorem engineCycle_sameLatch_of_err {s t : State} (hc : engineCycle s = .next t) (h : s.err = true) : SameLatch s t := by
  obtain ⟨-, rfl⟩ | ⟨-, -, rfl⟩ | ⟨-, -, i, u, -, hu, rfl⟩ := engineCycle_cases hc
  · exact sameLatch_refl t
  · exact sameLatch_refl s
  · have hlatch : SameLatch s u := effect_sameLatch_of_err (exec_effect hu) h
    exact hlatch

theorem sameLatch_memRead (s : State) (off : Nat) : SameLatch s (s.memRead off) := by
  obtain ⟨-, hlatch, -⟩ := sameEngine_memRead s off
  exact hlatch

/-- With an error latched a `CMD` write is dropped: while busy the overrun is lost, and while idle the word. -/
theorem State.issue_of_err {s : State} (h : s.err = true) (w : Word) : s.issue w = s := by
  cases hb : s.busy
  · exact State.issue_err hb h w
  · rw [State.issue_busy hb, State.latch_of_err h]

/-- A write keeps a latched error, unless it clears `STATUS.ERR` or resets the engine. -/
theorem memWrite_sameLatch_of_err {s : State} (h : s.err = true) {off : Nat} {v : Word}
    (hstatus : off = 0x008 → v.getLsbD 2 = false) (hctrl : off = 0x004 → v.getLsbD 1 = false) :
    SameLatch s (s.memWrite off v) := by
  by_cases hs : slotAt off = .status
  · rw [s.memWrite_status hs, s.writeStatus_eq, hstatus ((slotAt_eq_status_iff off).mp hs)]
    exact ⟨Bool.and_true _, rfl, rfl⟩
  by_cases hc : slotAt off = .ctrl
  · rw [s.memWrite_ctrl hc, s.writeCtrl_enable (hctrl ((slotAt_eq_ctrl_iff off).mp hc))]
    exact sameLatch_refl s
  obtain hw | hw | ⟨t, hw, ht⟩ := s.memWrite_cases_of_ne hc hs v <;> rw [hw]
  · exact sameLatch_refl s
  · rw [State.issue_of_err h]; exact sameLatch_refl s
  · cases hb : s.busy
    · rw [State.operandWrite_idle hb]
      obtain rfl | ⟨_, _, rfl⟩ | ⟨_, rfl⟩ := ht <;> exact sameLatch_refl s
    · rw [State.operandWrite_busy hb]; exact sameLatch_latch_of_err h _ _

/-- Settles O8: the latch takes the first error, and the operations that keep it are those that do not clear it. -/
theorem latchKeepsTheFirstError : Obligations.LatchKeepsTheFirstError := by
  intro s code info v
  refine ⟨errorTaken_latch s code info, fun hv => ?cleared, rfl, rfl, rfl,
    fun i t he h => effect_sameLatch_of_err (exec_effect h) he, fun t he h => engineCycle_sameLatch_of_err h he,
    sameLatch_memRead s, fun off he _ hstatus hctrl => memWrite_sameLatch_of_err he hstatus hctrl, fun he => ?dropped⟩
  case cleared =>
    rw [s.memWrite_status rfl, s.writeStatus_eq, hv]
    exact ⟨Bool.and_false _, rfl, rfl⟩
  case dropped => rw [s.memWrite_cmd rfl, State.issue_of_err he]

/-! ### A `CMD` write and a completion (60_exceptions.md R209) -/

theorem State.raise_withSchedule (s : State) (code : ErrCode) (es : List Event) :
    (s.withSchedule es).raise code = (s.raise code).withSchedule es := by
  unfold State.raise State.latch
  rw [State.withSchedule_err]
  split <;> rfl

theorem State.setQ_withSchedule (s : State) (d : QReg) (P : Point) (es : List Event) :
    (s.withSchedule es).setQ d P = (s.setQ d P).withSchedule es := rfl

theorem State.half_withSchedule (s : State) (es : List Event) (j : Half) : (s.withSchedule es).half j = s.half j := rfl

theorem State.raw_withSchedule (s : State) (es : List Event) (i : FReg) : (s.withSchedule es).raw i = s.raw i := rfl

theorem State.fv_withSchedule (s : State) (es : List Event) (i : FReg) : (s.withSchedule es).fv i = s.fv i := rfl

theorem State.writeField_withSchedule (s : State) (d : FReg) (n : Nat) (es : List Event) :
    (s.withSchedule es).writeField d n = (s.writeField d n).withSchedule es := rfl

/-- `Execute` neither reads nor writes the schedule, which is the model's own (log 5). `SWU` and `H2C` go by their lemmas:
left to compare the two sides by evaluation, the kernel would compute the map. -/
theorem exec_withSchedule {i : Instr} {s t : State} (h : exec i s = .next t) (es : List Event) :
    exec i (s.withSchedule es) = .next (t.withSchedule es) := by
  cases i
  case qlift d a b =>
    change execQlift d a b s = .next t at h
    change execQlift d a b (s.withSchedule es) = .next (t.withSchedule es)
    unfold execQlift at h ⊢
    rw [State.raw_withSchedule, State.raw_withSchedule]
    split at h
    · cases h; rfl
    · cases h; rw [State.raise_withSchedule]
  case h2c d =>
    obtain rfl := Host.Outcome.next.inj (h.symm.trans (exec_h2c d s))
    rw [exec_h2c, State.half_withSchedule, State.half_withSchedule, State.setQ_withSchedule]
  case swu d a b =>
    obtain rfl := Host.Outcome.next.inj (h.symm.trans (exec_swu d b rfl))
    rw [exec_swu d b (s.fv_withSchedule es a), State.writePair, State.writeField_withSchedule,
      State.writeField_withSchedule, State.writePair]
  all_goals cases h; rfl

/-- The step that completes the command in flight, by the command's own effect. -/
theorem step_completes {s u : State} {es : List Event} {i : Instr} (hs : s.schedule = .cycle :: es) (hb : s.busy = true)
    (hc : s.cnt = 0) (hi : decode s.pending = .ok i) (hu : exec i s = .next u) :
    step s = .next (u.withSchedule es).retire := by
  obtain ⟨-, -, hdue⟩ := stepRunsTheDecodedCommand s (s.withSchedule es) (.inr ⟨es, hs, rfl⟩)
  obtain ⟨t, ht, hstep⟩ := hdue i hb hc hi
  cases (exec_withSchedule hu es).symm.trans ht
  exact hstep

/-- The step that performs a scheduled `CMD` write. -/
theorem step_issues {s : State} {es : List Event} {w : Word}
    (hs : s.schedule = .access (.write (Config.base + 0x00C) 4 w) :: es) : step s = .next ((s.withSchedule es).issue w) := by
  obtain ⟨-, hwrite, -⟩ := stepPerformsTheScheduledAccess s 0x00C w es (by decide) (by decide)
  exact (hwrite hs).trans (congrArg _ (State.memWrite_cmd _ rfl w))

/-- A scheduled `CMD` write while a command is in flight (10_state.md R38 case (a)). -/
theorem step_overruns {s : State} {es : List Event} {w : Word}
    (hs : s.schedule = .access (.write (Config.base + 0x00C) 4 w) :: es) (hb : s.busy = true) :
    step s = .next ((s.withSchedule es).latch .overrun w) := by
  rw [step_issues hs, State.issue_busy (s := s.withSchedule es) hb]

/-- A scheduled `CMD` write of a legal word while idle with no error (10_state.md R38 case (d)). -/
theorem step_accepts {s : State} {es : List Event} {w : Word}
    (hs : s.schedule = .access (.write (Config.base + 0x00C) 4 w) :: es) (hb : s.busy = false) (he : s.err = false)
    (hw : legal w = true) : step s = .next ((s.withSchedule es).accept w) := by
  rw [step_issues hs, State.issue_legal (s := s.withSchedule es) hb he hw]

/-- A run of two steps, from the steps. -/
theorem run_two {s t u : State} (hst : step s = .next t) (htu : step t = .next u) : core.run 2 s = .next u := by
  have hcore : core.step s = .next t := hst
  have hcore' : core.step t = .next u := htu
  simp only [Host.Core.run, hcore, hcore']

/-- Settles O56: the write first overruns the command that is still in flight, and the completion keeps that error; the
completion first leaves the engine idle with no error, so that it accepts the word. -/
theorem bothOrdersOfTheRaceAreAdmitted : Obligations.BothOrdersOfTheRaceAreAdmitted := by
  intro s w i hb hc he hi hw hsucceeds
  refine ⟨fun hs => ?writeFirst, fun hs => ?completionFirst⟩
  case writeFirst =>
    have hwrite := step_overruns hs hb
    obtain ⟨-, hcontrol, htaken, -⟩ := errorTaken_latch (s.withSchedule [.cycle]) .overrun w
    generalize (s.withSchedule [.cycle]).latch .overrun w = t at hwrite hcontrol htaken
    obtain ⟨-, hbusy, -, hlast, hpend, hcnt, hsched, -⟩ := hcontrol
    obtain ⟨herr, hcode, hinfo⟩ := htaken he
    obtain ⟨u, hu⟩ := exec_next i t
    have hcomplete := step_completes hsched (hbusy.trans hb) (hcnt.trans hc) (hpend ▸ hi) hu
    obtain ⟨herr', hcode', hinfo'⟩ := effect_sameLatch_of_err (exec_effect hu) herr
    obtain ⟨-, -, -, hlast', -⟩ := effect_sameControl (exec_effect hu)
    exact ⟨_, run_two hwrite hcomplete, rfl, herr'.trans herr, hcode'.trans hcode, hinfo'.trans hinfo, hlast'.trans hlast⟩
  case completionFirst =>
    obtain ⟨u, hu⟩ := exec_next i s
    have herr : u.err = false := hsucceeds u hu
    have hcomplete := step_completes hs hb hc hi hu
    have haccept := step_accepts (s := (u.withSchedule _).retire) (es := []) rfl rfl herr hw
    exact ⟨_, run_two hcomplete haccept, rfl, herr, rfl, rfl⟩

end Sys2Proof.Machine
end

section
/-! Reset (70_reset_and_hazards.md R230, R231), by hardware and by a `CTRL` write with `SRST` set. -/

namespace Sys2Proof.Machine

open Sys2Proof.Safety

/-- Settles O1: a reset engine is idle with no error latched, so that it accepts every legal word. -/
theorem resetPutsEveryRegisterAtItsValue : Obligations.ResetPutsEveryRegisterAtItsValue := by
  refine ⟨atReset_resetEngine State.reset, fun s => ⟨atReset_resetEngine s, State.rdata_memRead_control _ rfl,
    fun w hw => ?accepted⟩⟩
  case accepted =>
    rw [State.memWrite_cmd _ rfl, State.issue_legal rfl rfl hw]
    exact ⟨rfl, rfl⟩

/-- Settles O2: the write resets the engine, and `CTRL` and `ID` define their values in every state. -/
theorem softResetIsTheFullReset : Obligations.SoftResetIsTheFullReset := by
  intro s v hv
  rw [s.memWrite_ctrl rfl, s.writeCtrl_srst hv]
  exact ⟨atReset_resetEngine s, State.rdata_memRead_control _ rfl,
    (State.rdata_memRead_control (off := 0x000) _ rfl).trans (s.rdata_memRead_control (off := 0x000) rfl).symm⟩

end Sys2Proof.Machine
end

section
/-! The latency of a command (70_reset_and_hazards.md R237): with the host quiet the engine counts it down, and then completes
the command. -/

namespace Sys2Proof.Machine

open Host

/-- A run begins with its first step. -/
theorem run_of_step {s t : State} (h : step s = .next t) (n : Nat) : core.run (n + 1) s = core.run n t := by
  have hcore : core.step s = .next t := h
  simp only [Core.run, hcore]

/-- A run of `m + n` steps goes on where the first `m` have led. -/
theorem run_add {m : Nat} {s t : State} (h : core.run m s = .next t) (n : Nat) : core.run (m + n) s = core.run n t := by
  induction m generalizing s with
  | zero => cases h; rw [Nat.zero_add]
  | succ m ih =>
    obtain ⟨u, hu, hrun⟩ := run_succ h
    rw [Nat.succ_add, run_of_step hu, ih hrun]

/-- With the host quiet, a step is the engine's cycle on the rest of the schedule. -/
theorem step_of_hostQuiet {s : State} (h : ∀ e ∈ s.schedule.take 1, e = .cycle) :
    step s = engineCycle (s.withSchedule (s.schedule.drop 1)) := by
  cases hs : s.schedule with
  | nil => exact step_engineTurn (.inl ⟨hs, by rw [State.withSchedule, List.drop_nil, ← hs]⟩)
  | cons e es =>
    obtain rfl : e = .cycle := h e (by simp [hs])
    exact step_engineTurn (.inr ⟨es, hs, rfl⟩)

/-- The state once `n` cycles have been counted. -/
def State.counted (s : State) (n : Nat) : State := { s with cnt := s.cnt - n, schedule := s.schedule.drop n }

theorem State.counted_succ (s : State) (n : Nat) :
    s.counted (n + 1) = ((s.counted n).withSchedule ((s.counted n).schedule.drop 1)).countDown := by
  simp only [State.counted, State.countDown, State.withSchedule, List.drop_drop, Nat.sub_sub]

/-- The state on which a command completes: its count has run out, and the completion has taken an entry of its own
(log 21). -/
def State.due (s : State) : State := { s with cnt := 0, schedule := s.schedule.drop (s.cnt + 1) }

theorem State.counted_cnt (s : State) : (s.counted s.cnt).withSchedule ((s.counted s.cnt).schedule.drop 1) = s.due := by
  simp only [State.counted, State.due, State.withSchedule, List.drop_drop, Nat.sub_self]

/-- A host that is quiet for `n + 1` steps is so in the last of them. -/
theorem State.counted_hostQuiet {s : State} {n : Nat} (h : ∀ e ∈ s.schedule.take (n + 1), e = .cycle) :
    ∀ e ∈ (s.counted n).schedule.take 1, e = .cycle := by
  rw [State.counted, List.take_drop]
  exact fun e he => h e (List.mem_of_mem_drop he)

/-- With the host quiet, the cycles of a command in flight are counted and change nothing else. -/
theorem run_counts {s : State} {n : Nat} (hb : s.busy = true) (hn : n ≤ s.cnt) (hq : ∀ e ∈ s.schedule.take n, e = .cycle) :
    core.run n s = .next (s.counted n) := by
  induction n with
  | zero => rfl
  | succ n ih =>
    have hrun := ih (by omega) fun e he => hq e (List.take_subset_take_left _ (by omega) he)
    have hstep : step (s.counted n) = .next (s.counted (n + 1)) := by
      rw [step_of_hostQuiet (State.counted_hostQuiet hq), State.counted_succ]
      exact engineCycle_count hb (Nat.sub_ne_zero_of_lt hn)
    exact (run_add hrun 1).trans (run_of_step hstep 0)

/-- With the host quiet, a command in flight completes in the step after its count has run out. -/
theorem run_completes {s u : State} {i : Instr} (hb : s.busy = true) (hq : ∀ e ∈ s.schedule.take (s.cnt + 1), e = .cycle)
    (hi : decode s.pending = .ok i) (hu : exec i s.due = .next u) : core.run (s.cnt + 1) s = .next u.retire := by
  have hcount := run_counts hb (le_refl _) fun e he => hq e (List.take_subset_take_left _ (by omega) he)
  have hstep : step (s.counted s.cnt) = .next u.retire := by
    rw [step_of_hostQuiet (State.counted_hostQuiet hq), State.counted_cnt, engineCycle_due (s := s.due) hb rfl,
      complete_of_decode (s := s.due) hi, completeWith_eq_next hu]
  exact (run_add hcount 1).trans (run_of_step hstep 0)

/-- Settles O55: the accepted word is in flight with its latency to count, and a legal word decodes. -/
theorem acceptedCommandsTakeTheirLatency : Obligations.AcceptedCommandsTakeTheirLatency := by
  intro s w hb he hw hq
  obtain ⟨o, -, hi⟩ := decode_of_legal hw
  obtain ⟨u, hu⟩ := exec_next (o.build w) (s.accept w).due
  rw [s.memWrite_cmd rfl, State.issue_legal hb he hw]
  refine ⟨fun n hn => ?counts, o.build w, u, hi, hu, run_completes (s := s.accept w) rfl hq hi hu⟩
  case counts =>
    exact run_counts (s := s.accept w) rfl hn fun e he => hq e (List.take_subset_take_left _ (Nat.le_succ_of_le hn) he)

end Sys2Proof.Machine
end

section
/-! What the host sees of timing (70_reset_and_hazards.md R238): every step takes it from what it was, whatever the operand
state holds, but for `ERR` where a command with a check completes. -/

namespace Sys2Proof.Machine

open Host
open Sys2Proof.Safety

/-! ### The part of the state that timing shows -/

/-- The state with operand state, the latched code and information, and the values read blanked out. -/
def State.timing (s : State) : State :=
  { State.reset with
    irqEn := s.irqEn, busy := s.busy, done := s.done, err := s.err, lastCmd := s.lastCmd, pending := s.pending, cnt := s.cnt,
    schedule := s.schedule }

/-- The state with `STATUS.ERR` put to `b`. -/
def State.withErr (s : State) (b : Bool) : State := { s with err := b }

theorem State.timing_eq_iff (s s' : State) :
    s'.timing = s.timing ↔
      s'.busy = s.busy ∧ s'.done = s.done ∧ s'.err = s.err ∧ s'.irqEn = s.irqEn ∧ s'.cnt = s.cnt ∧ s'.pending = s.pending ∧
        s'.lastCmd = s.lastCmd ∧ s'.schedule = s.schedule := by
  simp only [State.timing, State.mk.injEq, true_and, and_true]
  tauto

/-- `irq` reads three bits alone, and with `DONE` set only two. -/
theorem State.irq_eq {s s' : State} (hen : s'.irqEn = s.irqEn) (hdone : s'.done = s.done)
    (herr : s'.err = s.err ∨ s.done = true) : s'.irq = s.irq := by
  unfold State.irq
  rw [hen, hdone]
  obtain h | h := herr <;> rw [h]
  rw [Bool.true_or, Bool.true_or]

/-! ### Operations whose timing is that of the state they start from -/

/-- What timing shows after `g` depends only on what it showed before. -/
def KeepsTiming (g : State → State) : Prop := ∀ s, (g s).timing = (g s.timing).timing

theorem KeepsTiming.congr {g : State → State} (hg : KeepsTiming g) {s s' : State} (h : s'.timing = s.timing) :
    (g s').timing = (g s).timing := by
  rw [hg s', h, ← hg s]

theorem State.timing_latch (s : State) (code : ErrCode) (info : Word) :
    (s.latch code info).timing = (s.withErr true).timing := by
  simp [State.timing, State.withErr]

theorem keepsTiming_withSchedule (es : List Event) : KeepsTiming (·.withSchedule es) := fun _ => rfl

theorem keepsTiming_countDown : KeepsTiming State.countDown := fun _ => rfl

theorem keepsTiming_retire : KeepsTiming State.retire := fun _ => rfl

theorem keepsTiming_resetEngine : KeepsTiming State.resetEngine := fun _ => rfl

theorem keepsTiming_latch (code : ErrCode) (info : Word) : KeepsTiming (·.latch code info) := fun s => by
  simp only [State.timing_latch]; rfl

/-- The issue is decided by `BUSY`, `ERR` and the word (10_state.md R38). -/
theorem keepsTiming_issue (w : Word) : KeepsTiming (·.issue w) := fun s => by
  obtain ⟨hb, h⟩ | ⟨hb, he, h⟩ | ⟨hb, he, hl, h⟩ | ⟨hb, he, hl, h⟩ := s.issue_cases w <;> simp only [h]
  · rw [State.issue_busy (s := s.timing) hb]; exact keepsTiming_latch _ _ s
  · rw [State.issue_err (s := s.timing) hb he]; rfl
  · rw [State.issue_illegal (s := s.timing) hb he hl]
    exact congrArg (fun t => { t with done := true }) (keepsTiming_latch .illegal w s)
  · rw [State.issue_legal (s := s.timing) hb he hl]; rfl

theorem keepsTiming_writeCtrl (v : Word) : KeepsTiming (·.writeCtrl v) := fun s => by
  cases hv : v.getLsbD 1
  · simp only [State.writeCtrl_enable _ hv]; rfl
  · simp only [State.writeCtrl_srst _ hv]; rfl

theorem keepsTiming_writeStatus (v : Word) : KeepsTiming (·.writeStatus v) := fun s => by
  simp only [State.writeStatus_eq]; rfl

/-- A write to operand state shows only the error it takes while busy (20_memory.md R56). -/
theorem keepsTiming_operandWrite (off : Nat) {g : State → State} (hg : KeepsTiming g) :
    KeepsTiming fun s => s.operandWrite off (g s) := fun s => by
  cases hb : s.busy
  · simp only [State.operandWrite_idle hb, State.operandWrite_idle (s := s.timing) hb]; exact hg s
  · simp only [State.operandWrite_busy hb, State.operandWrite_busy (s := s.timing) hb]; exact keepsTiming_latch _ _ s

theorem keepsTiming_memWrite (off : Nat) (v : Word) : KeepsTiming (·.memWrite off v) := by
  unfold State.memWrite
  cases slotAt off with
  | cmd => exact keepsTiming_issue v
  | ctrl => exact keepsTiming_writeCtrl v
  | status => exact keepsTiming_writeStatus v
  | pred => exact keepsTiming_operandWrite off (g := (·.setPred v)) fun _ => rfl
  | f i k => exact keepsTiming_operandWrite off (g := (·.setFWord i k v)) fun _ => rfl
  | ub m => exact keepsTiming_operandWrite off (g := (·.setUbWord m v)) fun _ => rfl
  | _ => exact fun _ => rfl

theorem State.timing_memRead (s : State) (off : Nat) : (s.memRead off).timing = s.timing := by
  obtain hr | hr := s.memRead_cases off <;> rw [hr] <;> rfl

theorem keepsTiming_effect (off : Nat) (a : Access) : KeepsTiming (a.effect off) := by
  cases a with
  | read => exact fun s => by simp only [Access.effect, State.timing_memRead]; rfl
  | write _ _ v => exact keepsTiming_memWrite off v

/-- The window takes or refuses an access by its address and size alone. -/
theorem hostAccess_timing {a : Access} {s s' t : State} (h : s'.timing = s.timing) (ht : hostAccess a s = .next t) :
    ∃ t', hostAccess a s' = .next t' ∧ t'.timing = t.timing := by
  rw [hostAccess_eq] at ht ⊢
  split at ht
  · cases ht
  · split at ht
    · cases ht
    · next hwindow haccepted =>
      cases ht
      rw [if_neg hwindow, if_neg haccepted]
      exact ⟨_, rfl, (keepsTiming_effect _ a).congr h⟩

/-! ### The completion -/

/-- The command in flight completes in the next engine cycle, and is a `QLIFT` or an `H2C`. -/
def State.CheckDue (s : State) : Prop :=
  s.busy = true ∧ s.cnt = 0 ∧ (opF s.pending = 0x21#6 ∨ opF s.pending = 0x28#6)

/-- `t'` shows the timing of `t`, but for `ERR` where `p`; there `DONE` is set. -/
def TimingAgrees (p : Prop) (t t' : State) : Prop :=
  t'.timing = (t.withErr t'.err).timing ∧ (t'.err = t.err ∨ p ∧ t.done = true)

theorem timingAgrees_of_eq {p : Prop} {t t' : State} (h : t'.timing = t.timing) : TimingAgrees p t t' := by
  obtain ⟨-, -, herr, -⟩ := (State.timing_eq_iff t t').mp h
  exact ⟨by rw [h, herr]; rfl, .inl herr⟩

theorem TimingAgrees.imp {p q : Prop} {t t' : State} (h : TimingAgrees p t t') (hpq : p → q) : TimingAgrees q t t' :=
  ⟨h.1, h.2.imp_right (And.imp_left hpq)⟩

theorem opF_of_decode {w : Word} {i : Instr} (h : decode w = .ok i) : opF w = i.opcode.code := by
  obtain ⟨o, ho, rfl⟩ := accepts_of_decode h
  rw [Opcode.build_opcode, ho.code]

/-- A command leaves all that timing shows but `ERR`. -/
theorem exec_timing {i : Instr} {s t : State} (h : exec i s = .next t) : t.timing = (s.withErr t.err).timing := by
  obtain ⟨hirqEn, hbusy, hdone, hlast, hpend, hcnt, hsched, -⟩ := effect_sameControl (exec_effect h)
  exact (State.timing_eq_iff _ t).mpr ⟨hbusy, hdone, rfl, hirqEn, hcnt, hpend, hlast, hsched⟩

theorem keepsTiming_withErr (b : Bool) : KeepsTiming (·.withErr b) := fun _ => rfl

/-- A command but `QLIFT` and `H2C` leaves `ERR` too. -/
theorem exec_err_or_checked {i : Instr} {s t : State} (h : exec i s = .next t) :
    t.err = s.err ∨ i.opcode = .qlift ∨ i.opcode = .h2c := by
  obtain ⟨herr, -⟩ | ⟨d, a, b, rfl⟩ | ⟨d, rfl⟩ := exec_sameLatch_or_checked h
  · exact .inl herr
  · exact .inr (.inl rfl)
  · exact .inr (.inr rfl)

/-- The completion takes what timing shows from what it showed, and a command without a check leaves `ERR` in both. -/
theorem complete_timing {s s' u : State} {i : Instr} (h : s'.timing = s.timing) (hb : s.busy = true) (hc : s.cnt = 0)
    (hi : decode s.pending = .ok i) (hu : exec i s = .next u) :
    ∃ t', complete s' = .next t' ∧ TimingAgrees s.CheckDue u.retire t' := by
  obtain ⟨-, -, herr, -, -, hpend, -⟩ := (State.timing_eq_iff s s').mp h
  obtain ⟨u', hu'⟩ := exec_next i s'
  refine ⟨u'.retire, (complete_of_decode (hpend ▸ hi)).trans (completeWith_eq_next hu'), ?_, ?_⟩
  · have hview : u'.timing = (u.withErr u'.err).timing :=
      calc u'.timing = (s'.withErr u'.err).timing := exec_timing hu'
        _ = (s.withErr u'.err).timing := (keepsTiming_withErr _).congr h
        _ = (u.withErr u'.err).timing := ((keepsTiming_withErr u'.err).congr (exec_timing hu)).symm
    exact keepsTiming_retire.congr hview
  · have hchecked (hop : i.opcode = .qlift ∨ i.opcode = .h2c) : s.CheckDue := by
      refine ⟨hb, hc, ?_⟩
      rw [opF_of_decode hi]
      exact hop.imp (congrArg Opcode.code) (congrArg Opcode.code)
    obtain hkept | hop := exec_err_or_checked hu
    · obtain hkept' | hop := exec_err_or_checked hu'
      · exact .inl (hkept'.trans (herr.trans hkept.symm))
      · exact .inr ⟨hchecked hop, rfl⟩
    · exact .inr ⟨hchecked hop, rfl⟩

/-! ### The step -/

theorem engineCycle_timing {s s' t : State} (h : s'.timing = s.timing) (ht : engineCycle s = .next t) :
    ∃ t', engineCycle s' = .next t' ∧ TimingAgrees s.CheckDue t t' := by
  obtain ⟨hbusy, -, -, -, hcnt, -⟩ := (State.timing_eq_iff s s').mp h
  obtain ⟨hb, rfl⟩ | ⟨hb, hc, rfl⟩ | ⟨hb, hc, i, u, hi, hu, rfl⟩ := engineCycle_cases ht
  · exact ⟨s', engineCycle_idle (hbusy.trans hb), timingAgrees_of_eq h⟩
  · exact ⟨_, engineCycle_count (hbusy.trans hb) (hcnt ▸ hc), timingAgrees_of_eq (keepsTiming_countDown.congr h)⟩
  · rw [engineCycle_due (hbusy.trans hb) (hcnt.trans hc)]
    exact complete_timing h hb hc hi hu

theorem step_timing {s s' t : State} (h : s'.timing = s.timing) (ht : step s = .next t) :
    ∃ t', step s' = .next t' ∧
      TimingAgrees ((s.schedule = [] ∨ ∃ es, s.schedule = .cycle :: es) ∧ s.CheckDue) t t' := by
  obtain ⟨-, -, -, -, -, -, -, hsched⟩ := (State.timing_eq_iff s s').mp h
  cases hs : s.schedule with
  | nil =>
    rw [step_nil hs] at ht
    rw [step_nil (hsched.trans hs)]
    obtain ⟨t', ht', hagree⟩ := engineCycle_timing h ht
    exact ⟨t', ht', hagree.imp (⟨.inl rfl, ·⟩)⟩
  | cons e es =>
    rw [step_cons hs] at ht
    rw [step_cons (hsched.trans hs)]
    have hrest := (keepsTiming_withSchedule es).congr h
    cases e with
    | access a =>
      obtain ⟨t', ht', hsame⟩ := hostAccess_timing hrest ht
      exact ⟨t', ht', timingAgrees_of_eq hsame⟩
    | cycle =>
      obtain ⟨t', ht', hagree⟩ := engineCycle_timing hrest ht
      exact ⟨t', ht', hagree.imp (⟨.inr ⟨es, rfl⟩, ·⟩)⟩
    | hardReset => cases ht; exact ⟨_, rfl, timingAgrees_of_eq (keepsTiming_resetEngine.congr hrest)⟩

/-- Settles O54: the step takes what timing shows from what it showed; where a check leaves `ERR` open, `DONE` is set, which
fixes `irq` alone. -/
theorem timingDoesNotDependOnOperands : Obligations.TimingDoesNotDependOnOperands := by
  intro s s' t hbusy hdone herr hirqEn hcnt hpend hlast hsched ht
  obtain ⟨t', ht', hview, herr'⟩ :=
    step_timing ((State.timing_eq_iff s s').mpr ⟨hbusy, hdone, herr, hirqEn, hcnt, hpend, hlast, hsched⟩) ht
  obtain ⟨hbusy', hdone', -, hirqEn', hcnt', hpend', hlast', hsched'⟩ := (State.timing_eq_iff _ t').mp hview
  exact ⟨t', ht', hbusy', hdone', hcnt', hirqEn', State.irq_eq hirqEn' hdone' (herr'.imp_right And.right), hpend', hlast',
    hsched', herr'.imp_right And.left⟩

end Sys2Proof.Machine
end
